-- ==== Sys2Proof/Word.lean ====
section
/-! DEFINITION. The two word types of the machine: an 8-bit byte and a 16-bit word (00_scope.md R4). -/

namespace Sys2Proof

/-- An 8-bit value: a register, a memory location, an IO port, an instruction byte. Bit 0 is D0, the least significant (R5). -/
abbrev Byte := BitVec 8

/-- A 16-bit value: SP, PC, a register pair, an address. Arithmetic wraps modulo 2^16 (R65). -/
abbrev Word := BitVec 16

end Sys2Proof
end

