-- ==== Sys2Proof/Machine/Bits.lean ====
section
/-! DEFINITION. Byte order and bit fields: the two bytes of a word, the fields of an opcode byte. -/

namespace Sys2Proof.Machine

/-- `hi(v)`, bits 15 to 8 (00_scope.md R5). -/
def hi (w : Word) : Byte := w.extractLsb' 8 8

/-- `lo(v)`, bits 7 to 0 (00_scope.md R5). -/
def lo (w : Word) : Byte := w.extractLsb' 0 8

/-- `h ++ l`, the first operand the more significant byte (00_scope.md R5). -/
def join (h l : Byte) : Word := h ++ l

/-- A three-bit field of an opcode, lowest bit at `i`: DDD, CCC, NNN and ALU at 3, SSS at 0 (30_encoding.md R91). -/
def field3 (b : Byte) (i : Nat) : BitVec 3 := b.extractLsb' i 3

/-- The RP field, bits D5 D4 (30_encoding.md R91). -/
def fieldRP (b : Byte) : BitVec 2 := b.extractLsb' 4 2

/-- The group, bits D7 D6 (30_encoding.md R91). -/
def group (b : Byte) : BitVec 2 := b.extractLsb' 6 2

/-- The low four bits of an opcode. -/
def low4 (b : Byte) : BitVec 4 := b.extractLsb' 0 4

end Sys2Proof.Machine
end

