-- ==== Sys2Proof/Syntax.lean ====
section
/-! DEFINITION. The instructions: one constructor per row of spec/opcode_table.json (30_encoding.md R98), and the
operand vocabulary of the 74 forms of the summary table (R103). -/

namespace Sys2Proof

/-- The seven general registers (10_state.md R20, R21). -/
inductive Reg where
  | b | c | d | e | h | l | a
deriving DecidableEq, Repr

/-- A register pair as the RP field of LXI, INX, DCX and DAD names it (10_state.md R22, 30_encoding.md R93). -/
inductive Pair where
  | bc | de | hl | sp
deriving DecidableEq, Repr

/-- The pairs PUSH rp and POP rp move; code 11 there is PSW, a form of its own (30_encoding.md R93). -/
inductive DataPair where
  | bc | de | hl
deriving DecidableEq, Repr

/-- The two pairs LDAX and STAX address memory with (41_data_transfer.md R126, R130). -/
inductive IndexPair where
  | bc | de
deriving DecidableEq, Repr

/-- The eight conditions of the CCC field (30_encoding.md R94, 44_branch.md R230). -/
inductive Cond where
  | nz | z | nc | c | po | pe | p | m
deriving DecidableEq, Repr

/-- The five status flags (10_state.md R27). -/
inductive Flag where
  | cf | af | zf | sf | pf
deriving DecidableEq, Repr

/-- The eight operations of the ALU field (30_encoding.md R91). -/
inductive AluOp where
  | add | adc | sub | sbb | ana | xra | ora | cmp
deriving DecidableEq, Repr

/-- What a DDD or SSS field names: a register, or M, the memory byte at HL (30_encoding.md R92, 10_state.md R23). -/
inductive Loc where
  | reg (r : Reg)
  | mem
deriving DecidableEq, Repr

/-- The second operand of an 8-bit operation on A: a register, M, or the byte in the instruction. -/
inductive Operand where
  | reg (r : Reg)
  | mem
  | imm (d8 : Byte)
deriving DecidableEq, Repr

/-- The machine's instructions, one constructor per row of spec/opcode_table.json. A register or pair that the opcode
byte names is part of the constructor's name, as it is part of the row's mnemonic. `undefined` stands for the ten rows
named "(undefined)", the first bytes that spell no instruction (30_encoding.md R99). -/
inductive Instr where
  -- The ten first bytes that spell no instruction (30_encoding.md R99)
  | undefined (opcode : Byte)
  -- Group I, data transfer (41_data_transfer.md)
  | movBB
  | movBC
  | movBD
  | movBE
  | movBH
  | movBL
  | movBA
  | movCB
  | movCC
  | movCD
  | movCE
  | movCH
  | movCL
  | movCA
  | movDB
  | movDC
  | movDD
  | movDE
  | movDH
  | movDL
  | movDA
  | movEB
  | movEC
  | movED
  | movEE
  | movEH
  | movEL
  | movEA
  | movHB
  | movHC
  | movHD
  | movHE
  | movHH
  | movHL
  | movHA
  | movLB
  | movLC
  | movLD
  | movLE
  | movLH
  | movLL
  | movLA
  | movAB
  | movAC
  | movAD
  | movAE
  | movAH
  | movAL
  | movAA
  | movBM
  | movCM
  | movDM
  | movEM
  | movHM
  | movLM
  | movAM
  | movMB
  | movMC
  | movMD
  | movME
  | movMH
  | movML
  | movMA
  | mviB (d8 : Byte)
  | mviC (d8 : Byte)
  | mviD (d8 : Byte)
  | mviE (d8 : Byte)
  | mviH (d8 : Byte)
  | mviL (d8 : Byte)
  | mviA (d8 : Byte)
  | mviM (d8 : Byte)
  | lda (addr16 : Word)
  | ldaxB
  | ldaxD
  | lxiB (d16 : Word)
  | lxiD (d16 : Word)
  | lxiH (d16 : Word)
  | lxiSP (d16 : Word)
  | lhld (addr16 : Word)
  | sta (addr16 : Word)
  | staxB
  | staxD
  | shld (addr16 : Word)
  | sphl
  | xchg
  | xthl
  | pushB
  | pushD
  | pushH
  | pushPSW
  | popB
  | popD
  | popH
  | popPSW
  | outPort (port8 : Byte)
  | inPort (port8 : Byte)
  -- Group II, arithmetic (42_arithmetic.md)
  | addB
  | addC
  | addD
  | addE
  | addH
  | addL
  | addA
  | addM
  | adi (d8 : Byte)
  | adcB
  | adcC
  | adcD
  | adcE
  | adcH
  | adcL
  | adcA
  | adcM
  | aci (d8 : Byte)
  | daa
  | dadB
  | dadD
  | dadH
  | dadSP
  | subB
  | subC
  | subD
  | subE
  | subH
  | subL
  | subA
  | subM
  | sui (d8 : Byte)
  | sbbB
  | sbbC
  | sbbD
  | sbbE
  | sbbH
  | sbbL
  | sbbA
  | sbbM
  | sbi (d8 : Byte)
  | inrB
  | inrC
  | inrD
  | inrE
  | inrH
  | inrL
  | inrA
  | inrM
  | inxB
  | inxD
  | inxH
  | inxSP
  | dcrB
  | dcrC
  | dcrD
  | dcrE
  | dcrH
  | dcrL
  | dcrA
  | dcrM
  | dcxB
  | dcxD
  | dcxH
  | dcxSP
  -- Group III, logical (43_logical.md)
  | anaB
  | anaC
  | anaD
  | anaE
  | anaH
  | anaL
  | anaA
  | anaM
  | ani (d8 : Byte)
  | oraB
  | oraC
  | oraD
  | oraE
  | oraH
  | oraL
  | oraA
  | oraM
  | ori (d8 : Byte)
  | xraB
  | xraC
  | xraD
  | xraE
  | xraH
  | xraL
  | xraA
  | xraM
  | xri (d8 : Byte)
  | cmpB
  | cmpC
  | cmpD
  | cmpE
  | cmpH
  | cmpL
  | cmpA
  | cmpM
  | cpi (d8 : Byte)
  | cma
  | cmc
  | stc
  | rlc
  | ral
  | rrc
  | rar
  -- Group IV, branching (44_branch.md)
  | jmp (addr16 : Word)
  | jnz (addr16 : Word)
  | jz (addr16 : Word)
  | jnc (addr16 : Word)
  | jc (addr16 : Word)
  | jpo (addr16 : Word)
  | jpe (addr16 : Word)
  | jp (addr16 : Word)
  | jm (addr16 : Word)
  | call (addr16 : Word)
  | cnz (addr16 : Word)
  | cz (addr16 : Word)
  | cnc (addr16 : Word)
  | cc (addr16 : Word)
  | cpo (addr16 : Word)
  | cpe (addr16 : Word)
  | cp (addr16 : Word)
  | cm (addr16 : Word)
  | ret
  | rnz
  | rz
  | rnc
  | rc
  | rpo
  | rpe
  | rp
  | rm
  | rst0
  | rst1
  | rst2
  | rst3
  | rst4
  | rst5
  | rst6
  | rst7
  | pchl
  -- Group V, machine control (45_machine_control.md)
  | di
  | ei
  | sim
  | rim
  | hlt
  | nop
deriving DecidableEq, Repr

/-- The instruction forms, operands as arguments: the rows of the summary table (30_encoding.md R103), with the three
operand kinds of an 8-bit operation on A, and the two of MVI, INR and DCR, as one form each. The constructor of `Instr`
a form stands for is `Form.instr`, the form of an instruction `Instr.form`. -/
inductive Form where
  | mov (dst src : Reg)
  | movFromM (dst : Reg)
  | movToM (src : Reg)
  | mvi (x : Loc) (d8 : Byte)
  | lda (addr16 : Word)
  | ldax (p : IndexPair)
  | lxi (p : Pair) (d16 : Word)
  | lhld (addr16 : Word)
  | sta (addr16 : Word)
  | stax (p : IndexPair)
  | shld (addr16 : Word)
  | sphl
  | xchg
  | xthl
  | push (p : DataPair)
  | pushPsw
  | pop (p : DataPair)
  | popPsw
  | outPort (port8 : Byte)
  | inPort (port8 : Byte)
  | alu (op : AluOp) (x : Operand)
  | daa
  | dad (p : Pair)
  | inr (x : Loc)
  | inx (p : Pair)
  | dcr (x : Loc)
  | dcx (p : Pair)
  | cma
  | cmc
  | stc
  | rlc
  | ral
  | rrc
  | rar
  | jmp (addr16 : Word)
  | jcc (cc : Cond) (addr16 : Word)
  | call (addr16 : Word)
  | ccc (cc : Cond) (addr16 : Word)
  | ret
  | rcc (cc : Cond)
  | rst (n : Fin 8)
  | pchl
  | di
  | ei
  | sim
  | rim
  | hlt
  | nop
  | undefined (opcode : Byte)
deriving DecidableEq, Repr

end Sys2Proof
end

