-- ==== Sys2Proof/Config.lean ====
section
/-! DEFINITION. The free values: what the spec leaves to the platform, the environment or chance. Each is a constant
without a body, so no proof can know its value and a theorem holds whatever it is. A value drawn anew at each use takes
the number of the draw, `State.draws`, as its first argument. -/

namespace Sys2Proof.Config

/-- The launch content of a memory location nothing has written, by its address (20_memory.md R74, 92_eei_decisions.md
D4; log 3). Not a draw: two reads of one location give one value (R69). -/
opaque launchByte : Nat → Byte

/-- What a read of a device address answers: draw number, address (R74, D4; log 5). -/
opaque deviceByte : Nat → Nat → Byte

/-- What IN receives: draw number, port (20_memory.md R67, 41_data_transfer.md R140, D5; log 6). -/
opaque portByte : Nat → Byte → Byte

/-- The level of the SID pin at a RIM: draw number (10_state.md R35, 45_machine_control.md R263, D7; log 7). -/
opaque sidLevel : Nat → Bool

/-- Bits D5, D3, D1 (in this order) of the flag byte PUSH PSW stores: draw number (10_state.md R30, D2; log 8). -/
opaque pswUnused : Nat → BitVec 3

/-- The register values a reset event leaves: draw number, register (10_state.md R41, 70_reset_and_hazards.md R330, D8;
log 2). -/
opaque resetReg : Nat → Reg → Byte

/-- The SP a reset event leaves: draw number (R41, R330, D8; log 2). -/
opaque resetSp : Nat → Word

/-- The flags a reset event leaves: draw number, flag (R41, R330, D8; log 2). -/
opaque resetFlag : Nat → Flag → Bool

/-- The TRAP_IE_SHADOW a reset event leaves: draw number (R41; log 2). -/
opaque resetTrapShadow : Nat → Bool

end Sys2Proof.Config
end

