-- ==== Sys2Proof/Machine/State.lean ====
section
/-! DEFINITION. The state of the machine as plain data, the reasons a step can stop, and the state after reset. -/

namespace Sys2Proof.Machine

/-- Faults of the hardware. There is none: no instruction raises an exception (60_exceptions.md R280), and "fault is never
used" (93_implementation_defined.md, part 1). -/
inductive Fault where
deriving DecidableEq, Repr

/-- The refusals of the model: the spec gives no next state. -/
inductive Refusal where
  /-- Raised by an arm of `exec` for an instruction whose meaning is not written. Safe. -/
  | notModelled (mnemonic : String)
  /-- Raised by `execUndefined` on one of the ten bytes that spell no instruction (30_encoding.md R99, decision D1). Safe. -/
  | illegalOpcode (opcode : Byte)
  /-- Raised by every memory access to an address the memory map marks absent (20_memory.md R74, decision D4). Safe. -/
  | absentAddress (address : Word)
  /-- Raised at an INTR acknowledge whose device supplies neither RST n nor CALL (60_exceptions.md R287, decision D6). Safe. -/
  | intrOpcode (opcode : Byte)
deriving DecidableEq, Repr

/-- The seven general registers, 8 bits each (10_state.md R20). -/
structure Regs where
  a : Byte
  b : Byte
  c : Byte
  d : Byte
  e : Byte
  h : Byte
  l : Byte
deriving DecidableEq, Repr

/-- The five status flags (10_state.md R27). -/
structure Flags where
  cf : Bool
  af : Bool
  zf : Bool
  sf : Bool
  pf : Bool
deriving DecidableEq, Repr

/-- The control state: the one-bit cells of 10_state.md R32 to R37, and the two line levels of the most recent boundary that
RIM reads (60_exceptions.md R307). -/
structure Control where
  /-- IE, R32. -/
  ie : Bool
  /-- EI_PENDING, R36 (a). -/
  eiPending : Bool
  /-- M55, R33. -/
  m55 : Bool
  /-- M65, R33. -/
  m65 : Bool
  /-- M75, R33. -/
  m75 : Bool
  /-- L75, the RST 7.5 request latch, R34. -/
  l75 : Bool
  /-- SOD, the serial output latch, R35. -/
  sod : Bool
  /-- TRAP_IE_SHADOW, R36 (b). -/
  trapIeShadow : Bool
  /-- TRAP_SHADOW_VALID, R36 (b). -/
  trapShadowValid : Bool
  /-- The level of the RST 5.5 line at the most recent boundary, R285, R307. -/
  line55 : Bool
  /-- The level of the RST 6.5 line at the most recent boundary, R285, R307. -/
  line65 : Bool
  /-- HALTED, R37. -/
  halted : Bool
deriving DecidableEq, Repr

/-- What lies behind an address (20_memory.md R74). -/
inductive RegionKind where
  /-- Reads return the last value written or the launch content. -/
  | ram
  /-- Reads return a fixed content, writes have no effect. -/
  | rom
  /-- The environment answers reads and sees writes. -/
  | device
  /-- Unpopulated: the model refuses an access. -/
  | absent
deriving DecidableEq, Repr

/-- A range of addresses of one kind, both ends included. -/
structure Region where
  first : Nat
  last : Nat
  kind : RegionKind
deriving DecidableEq, Repr

/-- What IRQ_ENV reports at one instruction boundary (60_exceptions.md R307). The three bytes are `intr_opcode()` and the
two bytes that follow it when it is a CALL: low, then high. -/
structure IrqEvent where
  reset : Bool
  trap : Bool
  edge75 : Bool
  line65 : Bool
  line55 : Bool
  intr : Bool
  intrOpcode : Byte
  intrLo : Byte
  intrHi : Byte
deriving DecidableEq, Repr

/-- The default premise: nothing is reported (92_eei_decisions.md D6). -/
def IrqEvent.quiet : IrqEvent :=
  { reset := false, trap := false, edge75 := false, line65 := false, line55 := false, intr := false
    intrOpcode := 0, intrLo := 0, intrHi := 0 }

/-- An output of the processor: an IO write (20_memory.md R67) or a write to a device address (R74, D4). -/
inductive OutEvent where
  | port (port : Byte) (value : Byte)
  | device (address : Word) (value : Byte)
deriving DecidableEq, Repr

/-- The locations written so far, addresses strictly rising; an address without an entry has no value of its own and reads
as its launch content (20_memory.md R69, R74; log 3). -/
abbrev Memory := List Host.Cell

/-- The state of the machine (10_state.md), the parameters and inputs of the environment that the step reads
(60_exceptions.md R307), and the number of free values drawn. -/
structure State where
  regs : Regs
  flags : Flags
  /-- R24. -/
  sp : Word
  /-- R25. -/
  pc : Word
  ctl : Control
  /-- R39. -/
  mem : Memory
  /-- MEM_MAP (R74, D4): the first region that holds an address gives its kind, an address in none is RAM. -/
  memMap : List Region
  /-- IRQ_ENV (R307, D6): what the coming boundaries report, the nearest first; after the last, nothing is reported. -/
  irq : List IrqEvent
  /-- The output trace (R307, R336), oldest first. -/
  trace : List OutEvent
  /-- The model's own field: how many free values have been drawn (log 9). -/
  draws : Nat
deriving DecidableEq, Repr

/-- The outcome of a step or an instruction. -/
abbrev Result := Host.Outcome State Fault Refusal

/-- The control cells after reset (10_state.md R41). The spec leaves `trapIeShadow` unspecified and does not list the two
line levels: log 1, log 15. -/
def Control.reset : Control :=
  { ie := false, eiPending := false, m55 := true, m65 := true, m75 := true, l75 := false, sod := false
    trapIeShadow := false, trapShadowValid := false, line55 := false, line65 := false, halted := false }

/-- The machine right after reset (10_state.md R41, 70_reset_and_hazards.md R330, R331), under the default premises of D4
and D6. The spec leaves the general registers, SP and the flags unspecified; the zeros here are the model's (log 1). -/
def State.reset : State :=
  { regs := { a := 0, b := 0, c := 0, d := 0, e := 0, h := 0, l := 0 }
    flags := { cf := false, af := false, zf := false, sf := false, pf := false }
    sp := 0
    pc := 0
    ctl := Control.reset
    mem := []
    memMap := []
    irq := []
    trace := []
    draws := 0 }

end Sys2Proof.Machine
end

