-- ==== Sys2Proof/Machine/Flags.lean ====
section
/-! DEFINITION. Every result and flag computation: the pure functions of 00_scope.md R8, DAA, the rotates, the flag byte,
and the conditions. None reads or writes the machine's state. -/

namespace Sys2Proof.Machine

/-- A one-bit value as a number. -/
def bit (b : Bool) : Nat := if b then 1 else 0

/-- A one-bit value as a byte. -/
def bitByte (b : Bool) : Byte := (BitVec.ofBool b).setWidth 8

/-- `parity_even`: whether the number of 1 bits is even (00_scope.md R8). -/
def parityEven (v : Byte) : Bool := ((List.range 8).countP fun i => v.getLsbD i) % 2 == 0

/-- `set_ZSP`: ZF, SF and PF from a value, CF and AF kept (00_scope.md R8). -/
def Flags.setZSP (f : Flags) (v : Byte) : Flags :=
  { f with zf := v == 0, sf := v.getLsbD 7, pf := parityEven v }

/-- The outcome of an 8-bit addition or subtraction: result, carry or borrow, carry out of bit 3. -/
structure Sum8 where
  res : Byte
  cy : Bool
  ac : Bool
deriving DecidableEq, Repr

/-- `add8` (00_scope.md R8): the 9-bit sum's low byte and top bit, and the carry out of bit 3. -/
def add8 (a b : Byte) (cin : Bool) : Sum8 :=
  let s9 : BitVec 9 := a.setWidth 9 + b.setWidth 9 + (BitVec.ofBool cin).setWidth 9
  { res := s9.setWidth 8
    cy := s9.getLsbD 8
    ac := decide ((a.extractLsb' 0 4).toNat + (b.extractLsb' 0 4).toNat + bit cin > 15) }

/-- `sub8` (00_scope.md R8): add the complement with the borrow's complement carried in, and complement the carry. `cy` is
the borrow. -/
def sub8 (a b : Byte) (bin : Bool) : Sum8 :=
  let s := add8 a (~~~b) (!bin)
  { s with cy := !s.cy }

/-- All five flags from an addition or subtraction. -/
def Flags.ofSum (s : Sum8) : Flags :=
  ({ cf := s.cy, af := s.ac, zf := false, sf := false, pf := false } : Flags).setZSP s.res

/-- The flags of a logical operation: CF 0, AF a constant, the others from the result (43_logical.md R200 to R208). -/
def Flags.ofLogic (af : Bool) (res : Byte) : Flags :=
  ({ cf := false, af := af, zf := false, sf := false, pf := false } : Flags).setZSP res

/-- The flags of INR and DCR: AF, ZF, SF, PF from the addition, CF kept (42_arithmetic.md R174, R177). -/
def Flags.ofStep (f : Flags) (s : Sum8) : Flags := { f with af := s.ac }.setZSP s.res

/-- The eight operations on A and a second operand: A and the flags afterwards. CMP leaves A (42_arithmetic.md R160 to
R173, 43_logical.md R200 to R211). -/
def alu (op : AluOp) (a v : Byte) (f : Flags) : Byte × Flags :=
  match op with
  | .add => let s := add8 a v false; (s.res, Flags.ofSum s)
  | .adc => let s := add8 a v f.cf; (s.res, Flags.ofSum s)
  | .sub => let s := sub8 a v false; (s.res, Flags.ofSum s)
  | .sbb => let s := sub8 a v f.cf; (s.res, Flags.ofSum s)
  | .ana => (a &&& v, Flags.ofLogic true (a &&& v))
  | .xra => (a ^^^ v, Flags.ofLogic false (a ^^^ v))
  | .ora => (a ||| v, Flags.ofLogic false (a ||| v))
  | .cmp => (a, Flags.ofSum (sub8 a v false))

/-- INR: add one (42_arithmetic.md R174). -/
def inc8 (v : Byte) : Sum8 := add8 v 0x01 false

/-- DCR: add 0xFF, the carry dropped (42_arithmetic.md R177). -/
def dec8 (v : Byte) : Sum8 := add8 v 0xFF false

/-- DAA: A and the flags afterwards (42_arithmetic.md R166). -/
def daa (a : Byte) (f : Flags) : Byte × Flags :=
  let low := (a.extractLsb' 0 4).toNat
  let high := (a.extractLsb' 4 4).toNat
  let adjustLow := decide (low > 9) || f.af
  let adjustHigh := decide (high > 9) || f.cf || (decide (high ≥ 9) && decide (low > 9))
  let corr : Byte := (if adjustLow then 0x06 else 0x00) + (if adjustHigh then 0x60 else 0x00)
  let s := add8 a corr false
  (s.res, Flags.ofSum { s with cy := adjustHigh })

/-- DAD: the 16-bit sum and its carry (42_arithmetic.md R167). -/
def dad16 (x y : Word) : Word × Bool :=
  let s17 : BitVec 17 := x.setWidth 17 + y.setWidth 17
  (s17.setWidth 16, s17.getLsbD 16)

/-- RLC: A and CF afterwards (43_logical.md R215). -/
def rotL (a : Byte) : Byte × Bool := ((a <<< 1) ||| bitByte (a.getLsbD 7), a.getLsbD 7)

/-- RAL: A and CF afterwards (43_logical.md R216). -/
def rotLC (a : Byte) (cf : Bool) : Byte × Bool := ((a <<< 1) ||| bitByte cf, a.getLsbD 7)

/-- RRC: A and CF afterwards (43_logical.md R217). -/
def rotR (a : Byte) : Byte × Bool := ((bitByte (a.getLsbD 0) <<< 7) ||| (a >>> 1), a.getLsbD 0)

/-- RAR: A and CF afterwards (43_logical.md R218). -/
def rotRC (a : Byte) (cf : Bool) : Byte × Bool := ((bitByte cf <<< 7) ||| (a >>> 1), a.getLsbD 0)

/-- Whether a condition holds: the one flag each tests (44_branch.md R230). -/
def Flags.holds (f : Flags) : Cond → Bool
  | .nz => !f.zf
  | .z => f.zf
  | .nc => !f.cf
  | .c => f.cf
  | .po => !f.pf
  | .pe => f.pf
  | .p => !f.sf
  | .m => f.sf

/-- The flag byte F: SF ZF u5 AF u3 PF u1 CF, bit 7 down to bit 0 (10_state.md R30); `u` is u5, u3, u1. -/
def Flags.pack (f : Flags) (u : BitVec 3) : Byte :=
  BitVec.ofBool f.sf ++ BitVec.ofBool f.zf ++ BitVec.ofBool (u.getLsbD 2) ++ BitVec.ofBool f.af ++
    BitVec.ofBool (u.getLsbD 1) ++ BitVec.ofBool f.pf ++ BitVec.ofBool (u.getLsbD 0) ++ BitVec.ofBool f.cf

/-- The flags of a flag byte; bits 5, 3 and 1 are dropped (10_state.md R30, 41_data_transfer.md R138). -/
def Flags.unpack (b : Byte) : Flags :=
  { cf := b.getLsbD 0, af := b.getLsbD 4, zf := b.getLsbD 6, sf := b.getLsbD 7, pf := b.getLsbD 2 }

/-- The byte RIM reads: SID, the three pending bits, the view of IE, the three masks, D7 first (45_machine_control.md
R263). -/
def Control.rimByte (k : Control) (sid : Bool) : Byte :=
  BitVec.ofBool sid ++ BitVec.ofBool k.l75 ++ BitVec.ofBool k.line65 ++ BitVec.ofBool k.line55 ++
    BitVec.ofBool (if k.trapShadowValid then k.trapIeShadow else k.ie) ++
    BitVec.ofBool k.m75 ++ BitVec.ofBool k.m65 ++ BitVec.ofBool k.m55

/-- What SIM does to the control cells, by the byte in A: masks if D3, the latch if D4, SOD if D6 (45_machine_control.md
R262). -/
def Control.sim (k : Control) (a : Byte) : Control :=
  { k with
    m75 := if a.getLsbD 3 then a.getLsbD 2 else k.m75
    m65 := if a.getLsbD 3 then a.getLsbD 1 else k.m65
    m55 := if a.getLsbD 3 then a.getLsbD 0 else k.m55
    l75 := if a.getLsbD 4 then false else k.l75
    sod := if a.getLsbD 6 then a.getLsbD 7 else k.sod }

end Sys2Proof.Machine
end

