-- ==== Sys2Proof/Machine/Memory.lean ====
section
/-! DEFINITION. The written locations of memory as a list in one canonical form. -/

namespace Sys2Proof.Machine

/-- The value written to an address, if one was. -/
def Memory.read : Memory → Nat → Option Byte
  | [], _ => none
  | (b, v) :: m, a => if a = b then some v else Memory.read m a

/-- The memory with `v` written to `a`. An unlisted address reads as no value, so a write always lists its address. -/
def Memory.write : Memory → Nat → Byte → Memory
  | [], a, v => [(a, v)]
  | (b, w) :: m, a, v =>
    if a < b then (a, v) :: (b, w) :: m
    else if a = b then (a, v) :: m
    else (b, w) :: Memory.write m a v

/-- Every address of the list is at least `n`, the addresses strictly rise, and all lie in the 64K space. -/
def Memory.wfFrom : Nat → Memory → Bool
  | _, [] => true
  | n, (a, _) :: m => decide (n ≤ a) && decide (a < 65536) && Memory.wfFrom (a + 1) m

/-- The canonical form: addresses strictly rising and below 65,536 (10_state.md R39). -/
def Memory.wf (m : Memory) : Bool := Memory.wfFrom 0 m

end Sys2Proof.Machine
end

