-- ==== Sys2Proof/Machine/Ops.lean ====
section
/-! DEFINITION. The named operations over registers, memory, stack, ports and interrupts that the meanings share. An
operation that can be refused takes the rest of the step as its last argument. -/

namespace Sys2Proof.Machine
open Sys2Proof

/-! ## Registers and pairs -/

/-- The register of that name (10_state.md R20). -/
def Regs.get (r : Regs) : Reg → Byte
  | .b => r.b
  | .c => r.c
  | .d => r.d
  | .e => r.e
  | .h => r.h
  | .l => r.l
  | .a => r.a

/-- The register of that name set. -/
def Regs.set (r : Regs) (x : Reg) (v : Byte) : Regs :=
  match x with
  | .b => { r with b := v }
  | .c => { r with c := v }
  | .d => { r with d := v }
  | .e => { r with e := v }
  | .h => { r with h := v }
  | .l => { r with l := v }
  | .a => { r with a := v }

/-- A read of a register. -/
def State.reg (s : State) (x : Reg) : Byte := s.regs.get x

/-- A write of a register. -/
def State.setReg (s : State) (x : Reg) (v : Byte) : State := { s with regs := s.regs.set x v }

/-- The stack pointer written (10_state.md R24). -/
def State.setSp (s : State) (w : Word) : State := { s with sp := w }

/-- The program counter written (10_state.md R25). -/
def State.setPc (s : State) (w : Word) : State := { s with pc := w }

/-- The flags written. -/
def State.setFlags (s : State) (f : Flags) : State := { s with flags := f }

/-- The control cells written. -/
def State.setCtl (s : State) (k : Control) : State := { s with ctl := k }

/-- The carry flag written, the other four kept. -/
def State.setCF (s : State) (cf : Bool) : State := s.setFlags { s.flags with cf := cf }

/-- One free value has been drawn (log 9). -/
def State.drawn (s : State) : State := { s with draws := s.draws + 1 }

/-- An output recorded, after those before it (20_memory.md R67, R69). -/
def State.emit (s : State) (e : OutEvent) : State := { s with trace := s.trace ++ [e] }

/-- HL, H the high byte (10_state.md R22). -/
def State.hl (s : State) : Word := join s.regs.h s.regs.l

/-- A register pair or SP; the first named register is the high byte (10_state.md R22). -/
def State.pair (s : State) : Pair → Word
  | .bc => join s.regs.b s.regs.c
  | .de => join s.regs.d s.regs.e
  | .hl => s.hl
  | .sp => s.sp

/-- A register pair or SP written (00_scope.md R7). -/
def State.setPair (s : State) (p : Pair) (w : Word) : State :=
  match p with
  | .bc => (s.setReg .b (hi w)).setReg .c (lo w)
  | .de => (s.setReg .d (hi w)).setReg .e (lo w)
  | .hl => (s.setReg .h (hi w)).setReg .l (lo w)
  | .sp => s.setSp w

/-- A pair of PUSH and POP as a register pair (30_encoding.md R93). -/
def pairOfData : DataPair → Pair
  | .bc => .bc
  | .de => .de
  | .hl => .hl

/-- A pair of LDAX and STAX as a register pair (30_encoding.md R93). -/
def pairOfIndex : IndexPair → Pair
  | .bc => .bc
  | .de => .de

/-- `next`: the address after an instruction of `len` bytes at PC, modulo 2^16 (10_state.md R26). -/
def State.nextPc (s : State) (len : Nat) : Word := s.pc + BitVec.ofNat 16 len

/-- `pc <- next` (10_state.md R26). -/
def State.advance (s : State) (len : Nat) : State := s.setPc (s.nextPc len)

/-! ## Memory -/

/-- The kind MEM_MAP gives an address: that of the first region holding it, RAM where none does (20_memory.md R74). -/
def kindIn : List Region → Nat → RegionKind
  | [], _ => .ram
  | r :: rs, a => if r.first ≤ a ∧ a ≤ r.last then r.kind else kindIn rs a

/-- The kind of an address (20_memory.md R74). -/
def State.kindAt (s : State) (a : Word) : RegionKind := kindIn s.memMap a.toNat

/-- Whether there is anything behind an address (20_memory.md R74). -/
def State.present (s : State) (a : Word) : Bool := s.kindAt a != .absent

/-- The content of the memory cell at an address: the last value written, or the launch content (20_memory.md R69, R74). -/
def State.byteAt (s : State) (a : Word) : Byte := (s.mem.read a.toNat).getD (Config.launchByte a.toNat)

/-- What a read of an address answers: the cell of RAM or ROM, the environment's byte of a device (20_memory.md R74). -/
def State.readByte (s : State) (a : Word) : Byte :=
  if s.kindAt a = .device then Config.deviceByte s.draws a.toNat else s.byteAt a

/-- The state after a read: a device's answer is a draw, other reads change nothing (20_memory.md R64, R74). -/
def State.afterRead (s : State) (a : Word) : State := if s.kindAt a = .device then s.drawn else s

/-- The state after a write: RAM takes the byte, ROM ignores it, a device's write is an output (20_memory.md R74, D4). -/
def State.afterWrite (s : State) (a : Word) (v : Byte) : State :=
  match s.kindAt a with
  | .ram => { s with mem := s.mem.write a.toNat v }
  | .rom => s
  | .device => s.emit (.device a v)
  | .absent => s

/-- `MemRead(a, 1)`; refused where nothing is behind the address (00_scope.md R7, 20_memory.md R74). -/
def load (s : State) (a : Word) (k : Byte → State → Result) : Result :=
  if s.present a then k (s.readByte a) (s.afterRead a) else .refused (.absentAddress a)

/-- `MemWrite(a, 1, v)`; refused where nothing is behind the address (00_scope.md R7, 20_memory.md R74). -/
def store (s : State) (a : Word) (v : Byte) (k : State → Result) : Result :=
  if s.present a then k (s.afterWrite a v) else .refused (.absentAddress a)

/-! ## The stack -/

/-- A push of two bytes: SP down by one and the high byte stored there, SP down by one and the low byte (20_memory.md R61,
41_data_transfer.md R135). -/
def push16 (s : State) (w : Word) (k : State → Result) : Result :=
  store (s.setSp (s.sp - 1)) (s.sp - 1) (hi w) fun s1 =>
    store (s1.setSp (s1.sp - 1)) (s1.sp - 1) (lo w) k

/-- A pop of two bytes: the low byte read at SP and SP up by one, the high byte and SP up by one (20_memory.md R61,
41_data_transfer.md R137). -/
def pop16 (s : State) (k : Word → State → Result) : Result :=
  load s s.sp fun l s1 =>
    load (s1.setSp (s1.sp + 1)) (s1.sp + 1) fun h s2 =>
      k (join h l) (s2.setSp (s2.sp + 1))

/-- A call: the return address pushed, PC at the target (44_branch.md R233). -/
def callTo (s : State) (ret target : Word) : Result :=
  push16 s ret fun s1 => .next (s1.setPc target)

/-- A return: PC popped (44_branch.md R235). It is also the return from an interrupt, which has no instruction of its own
(60_exceptions.md R289). -/
def returnFromStack (s : State) : Result :=
  pop16 s fun w s1 => .next (s1.setPc w)

/-- The address RST n calls: n times 8 (44_branch.md R237). -/
def rstVector (n : Fin 8) : Word := BitVec.ofNat 16 n.val <<< 3

/-! ## Interrupts: the machine's only exceptions -/

/-- The four interrupt inputs with a vector (60_exceptions.md R281). -/
inductive Source where
  | trap | rst75 | rst65 | rst55
deriving DecidableEq, Repr

/-- Where an interrupt continues (60_exceptions.md R281). -/
def Source.vector : Source → Word
  | .trap => 0x0024
  | .rst75 => 0x003C
  | .rst65 => 0x0034
  | .rst55 => 0x002C

/-- The control cells at the entry of an interrupt: the halt over, IE cleared and, for TRAP, kept in the shadow; for RST 7.5
the latch cleared (60_exceptions.md R286, R288). -/
def Control.enter (k : Control) : Source → Control
  | .trap => { k with halted := false, ie := false, trapIeShadow := k.ie, trapShadowValid := true }
  | .rst75 => { k with halted := false, ie := false, l75 := false }
  | .rst65 => { k with halted := false, ie := false }
  | .rst55 => { k with halted := false, ie := false }

/-- Taking an interrupt: the control cells as above, PC pushed, PC at the vector (60_exceptions.md R286). -/
def enter (src : Source) (s : State) : Result :=
  callTo (s.setCtl (s.ctl.enter src)) s.pc src.vector

/-- Taking INTR: the halt over and IE cleared, then the RST n or CALL the device supplies, with PC as the return address;
any other byte is refused (60_exceptions.md R287). -/
def acknowledgeIntr (ev : IrqEvent) (s : State) : Result :=
  let s1 := s.setCtl { s.ctl with halted := false, ie := false }
  if ev.intrOpcode &&& 0xC7 = 0xC7 then callTo s1 s.pc (rstVector (field3 ev.intrOpcode 3).toFin)
  else if ev.intrOpcode = 0xCD then callTo s1 s.pc (join ev.intrHi ev.intrLo)
  else .refused (.intrOpcode ev.intrOpcode)

/-- A reset: the cells the spec lists at their reset values, the unspecified ones free, memory and everything outside the
processor untouched (70_reset_and_hazards.md R330, 10_state.md R41; log 2). -/
def State.resetEvent (s : State) : State :=
  { s with
    regs :=
      { a := Config.resetReg s.draws .a, b := Config.resetReg s.draws .b, c := Config.resetReg s.draws .c
        d := Config.resetReg s.draws .d, e := Config.resetReg s.draws .e, h := Config.resetReg s.draws .h
        l := Config.resetReg s.draws .l }
    flags :=
      { cf := Config.resetFlag s.draws .cf, af := Config.resetFlag s.draws .af
        zf := Config.resetFlag s.draws .zf, sf := Config.resetFlag s.draws .sf
        pf := Config.resetFlag s.draws .pf }
    sp := Config.resetSp s.draws
    pc := 0
    ctl := { Control.reset with trapIeShadow := Config.resetTrapShadow s.draws }
    draws := s.draws + 1 }

end Sys2Proof.Machine
end

