-- ==== Sys2Proof/Machine/Boundary.lean ====
section
/-! DEFINITION. The instruction boundary: what the environment reports and which interrupt is accepted (60_exceptions.md
R282, R284, R285). -/

namespace Sys2Proof.Machine

/-- What IRQ_ENV reports at this boundary; nothing once the list is used up (60_exceptions.md R307, D6). -/
def State.event (s : State) : IrqEvent := s.irq.headD .quiet

/-- The state with this boundary's event taken. -/
def State.eventTaken (s : State) : State := { s with irq := s.irq.tail }

/-- The boundary up to the five tests: an RST 7.5 edge latched, EI_PENDING cleared, the levels sampled (60_exceptions.md
R285). -/
def State.sampled (s : State) : State :=
  s.eventTaken.setCtl
    { s.ctl with
      l75 := s.ctl.l75 || s.event.edge75
      eiPending := false
      line65 := s.event.line65
      line55 := s.event.line55 }

/-- An interrupt that is taken: one with a vector, or INTR. -/
inductive Request where
  | vectored (src : Source)
  | intr
deriving DecidableEq, Repr

/-- Whether the maskable interrupts are admitted at this boundary: IE is 1 and EI_PENDING was 0 when it began
(60_exceptions.md R282, R291). -/
def State.admits (s : State) : Bool := s.ctl.ie && !s.ctl.eiPending

/-- The interrupt accepted at this boundary: the first of TRAP, RST 7.5, RST 6.5, RST 5.5, INTR that may be
(60_exceptions.md R282, R284). -/
def State.request (s : State) : Option Request :=
  if s.event.trap then some (.vectored .trap)
  else if s.sampled.ctl.l75 && !s.ctl.m75 && s.admits then some (.vectored .rst75)
  else if s.event.line65 && !s.ctl.m65 && s.admits then some (.vectored .rst65)
  else if s.event.line55 && !s.ctl.m55 && s.admits then some (.vectored .rst55)
  else if s.event.intr && s.admits then some .intr
  else none

/-- Whether the coming step fetches an instruction (60_exceptions.md R285). -/
def State.fetches (s : State) : Bool := !s.event.reset && s.request == none && !s.ctl.halted

end Sys2Proof.Machine
end

