-- ==== Sys2Proof/Machine/Operands.lean ====
section
/-! DEFINITION. The operand forms: a register, M, or the byte in the instruction. -/

namespace Sys2Proof.Machine
open Sys2Proof

/-- The value of the second operand of an 8-bit operation: a register, the memory byte at HL, or the instruction's own byte
(30_encoding.md R92, R95, 10_state.md R23). -/
def loadOperand (x : Operand) (s : State) (k : Byte → State → Result) : Result :=
  match x with
  | .reg r => k (s.reg r) s
  | .mem => load s s.hl k
  | .imm d8 => k d8 s

/-- The length of an instruction with that second operand: an immediate takes a second byte (30_encoding.md R91). -/
def operandLen : Operand → Nat
  | .reg _ => 1
  | .mem => 1
  | .imm _ => 2

/-- A read of a register or of M (30_encoding.md R92). -/
def loadLoc (x : Loc) (s : State) (k : Byte → State → Result) : Result :=
  match x with
  | .reg r => k (s.reg r) s
  | .mem => load s s.hl k

/-- A write of a register or of M (30_encoding.md R92). -/
def storeLoc (x : Loc) (v : Byte) (s : State) (k : State → Result) : Result :=
  match x with
  | .reg r => k (s.setReg r v)
  | .mem => store s s.hl v k

end Sys2Proof.Machine
end

