-- ==== Sys2Proof/Machine/Arithmetic.lean ====
section
/-! DEFINITION. Group II, arithmetic (42_arithmetic.md R160 to R181). -/

namespace Sys2Proof.Machine
open Sys2Proof

/-! ## Shared meanings -/

/-- An 8-bit operation on A and a second operand: A and the flags written (R160 to R173; 43_logical.md R200 to R211). -/
def operateOnA (op : AluOp) (x : Operand) (s : State) : Result :=
  loadOperand x s fun v s1 =>
    let r := alu op (s1.reg .a) v s1.flags
    .next (((s1.setReg .a r.1).setFlags r.2).advance (operandLen x))

/-- INR (R174, R175): CF is not written. -/
def increment (x : Loc) (s : State) : Result :=
  loadLoc x s fun v s1 =>
    storeLoc x (inc8 v).res s1 fun s2 =>
      .next ((s2.setFlags (s2.flags.ofStep (inc8 v))).advance 1)

/-- DCR (R177, R178): CF is not written. -/
def decrement (x : Loc) (s : State) : Result :=
  loadLoc x s fun v s1 =>
    storeLoc x (dec8 v).res s1 fun s2 =>
      .next ((s2.setFlags (s2.flags.ofStep (dec8 v))).advance 1)

/-- INX rp (R176). -/
def incrementPair (p : Pair) (s : State) : Result := .next ((s.setPair p (s.pair p + 1)).advance 1)

/-- DCX rp (R179). -/
def decrementPair (p : Pair) (s : State) : Result := .next ((s.setPair p (s.pair p - 1)).advance 1)

/-- DAD rp (R167). -/
def addPair (p : Pair) (s : State) : Result :=
  let r := dad16 s.hl (s.pair p)
  .next (((s.setPair .hl r.1).setCF r.2).advance 1)

/-! ## The instructions -/

/-- ADD B (R160). -/
def execAddB (s : State) : Result := operateOnA .add (.reg .b) s

/-- ADD C (R160). -/
def execAddC (s : State) : Result := operateOnA .add (.reg .c) s

/-- ADD D (R160). -/
def execAddD (s : State) : Result := operateOnA .add (.reg .d) s

/-- ADD E (R160). -/
def execAddE (s : State) : Result := operateOnA .add (.reg .e) s

/-- ADD H (R160). -/
def execAddH (s : State) : Result := operateOnA .add (.reg .h) s

/-- ADD L (R160). -/
def execAddL (s : State) : Result := operateOnA .add (.reg .l) s

/-- ADD A (R160). -/
def execAddA (s : State) : Result := operateOnA .add (.reg .a) s

/-- ADD M (R161). -/
def execAddM (s : State) : Result := operateOnA .add .mem s

/-- ADI d8 (R162). -/
def execAdi (d8 : Byte) (s : State) : Result := operateOnA .add (.imm d8) s

/-- ADC B (R163). -/
def execAdcB (s : State) : Result := operateOnA .adc (.reg .b) s

/-- ADC C (R163). -/
def execAdcC (s : State) : Result := operateOnA .adc (.reg .c) s

/-- ADC D (R163). -/
def execAdcD (s : State) : Result := operateOnA .adc (.reg .d) s

/-- ADC E (R163). -/
def execAdcE (s : State) : Result := operateOnA .adc (.reg .e) s

/-- ADC H (R163). -/
def execAdcH (s : State) : Result := operateOnA .adc (.reg .h) s

/-- ADC L (R163). -/
def execAdcL (s : State) : Result := operateOnA .adc (.reg .l) s

/-- ADC A (R163). -/
def execAdcA (s : State) : Result := operateOnA .adc (.reg .a) s

/-- ADC M (R164). -/
def execAdcM (s : State) : Result := operateOnA .adc .mem s

/-- ACI d8 (R165). -/
def execAci (d8 : Byte) (s : State) : Result := operateOnA .adc (.imm d8) s

/-- DAA (R166). -/
def execDaa (s : State) : Result :=
  let r := daa (s.reg .a) s.flags
  .next (((s.setReg .a r.1).setFlags r.2).advance 1)

/-- DAD B (R167). -/
def execDadB (s : State) : Result := addPair .bc s

/-- DAD D (R167). -/
def execDadD (s : State) : Result := addPair .de s

/-- DAD H (R167). -/
def execDadH (s : State) : Result := addPair .hl s

/-- DAD SP (R167). -/
def execDadSP (s : State) : Result := addPair .sp s

/-- SUB B (R168). -/
def execSubB (s : State) : Result := operateOnA .sub (.reg .b) s

/-- SUB C (R168). -/
def execSubC (s : State) : Result := operateOnA .sub (.reg .c) s

/-- SUB D (R168). -/
def execSubD (s : State) : Result := operateOnA .sub (.reg .d) s

/-- SUB E (R168). -/
def execSubE (s : State) : Result := operateOnA .sub (.reg .e) s

/-- SUB H (R168). -/
def execSubH (s : State) : Result := operateOnA .sub (.reg .h) s

/-- SUB L (R168). -/
def execSubL (s : State) : Result := operateOnA .sub (.reg .l) s

/-- SUB A (R168). -/
def execSubA (s : State) : Result := operateOnA .sub (.reg .a) s

/-- SUB M (R169). -/
def execSubM (s : State) : Result := operateOnA .sub .mem s

/-- SUI d8 (R170). -/
def execSui (d8 : Byte) (s : State) : Result := operateOnA .sub (.imm d8) s

/-- SBB B (R171). -/
def execSbbB (s : State) : Result := operateOnA .sbb (.reg .b) s

/-- SBB C (R171). -/
def execSbbC (s : State) : Result := operateOnA .sbb (.reg .c) s

/-- SBB D (R171). -/
def execSbbD (s : State) : Result := operateOnA .sbb (.reg .d) s

/-- SBB E (R171). -/
def execSbbE (s : State) : Result := operateOnA .sbb (.reg .e) s

/-- SBB H (R171). -/
def execSbbH (s : State) : Result := operateOnA .sbb (.reg .h) s

/-- SBB L (R171). -/
def execSbbL (s : State) : Result := operateOnA .sbb (.reg .l) s

/-- SBB A (R171). -/
def execSbbA (s : State) : Result := operateOnA .sbb (.reg .a) s

/-- SBB M (R172). -/
def execSbbM (s : State) : Result := operateOnA .sbb .mem s

/-- SBI d8 (R173). -/
def execSbi (d8 : Byte) (s : State) : Result := operateOnA .sbb (.imm d8) s

/-- INR B (R174). -/
def execInrB (s : State) : Result := increment (.reg .b) s

/-- INR C (R174). -/
def execInrC (s : State) : Result := increment (.reg .c) s

/-- INR D (R174). -/
def execInrD (s : State) : Result := increment (.reg .d) s

/-- INR E (R174). -/
def execInrE (s : State) : Result := increment (.reg .e) s

/-- INR H (R174). -/
def execInrH (s : State) : Result := increment (.reg .h) s

/-- INR L (R174). -/
def execInrL (s : State) : Result := increment (.reg .l) s

/-- INR A (R174). -/
def execInrA (s : State) : Result := increment (.reg .a) s

/-- INR M (R175). -/
def execInrM (s : State) : Result := increment .mem s

/-- INX B (R176). -/
def execInxB (s : State) : Result := incrementPair .bc s

/-- INX D (R176). -/
def execInxD (s : State) : Result := incrementPair .de s

/-- INX H (R176). -/
def execInxH (s : State) : Result := incrementPair .hl s

/-- INX SP (R176). -/
def execInxSP (s : State) : Result := incrementPair .sp s

/-- DCR B (R177). -/
def execDcrB (s : State) : Result := decrement (.reg .b) s

/-- DCR C (R177). -/
def execDcrC (s : State) : Result := decrement (.reg .c) s

/-- DCR D (R177). -/
def execDcrD (s : State) : Result := decrement (.reg .d) s

/-- DCR E (R177). -/
def execDcrE (s : State) : Result := decrement (.reg .e) s

/-- DCR H (R177). -/
def execDcrH (s : State) : Result := decrement (.reg .h) s

/-- DCR L (R177). -/
def execDcrL (s : State) : Result := decrement (.reg .l) s

/-- DCR A (R177). -/
def execDcrA (s : State) : Result := decrement (.reg .a) s

/-- DCR M (R178). -/
def execDcrM (s : State) : Result := decrement .mem s

/-- DCX B (R179). -/
def execDcxB (s : State) : Result := decrementPair .bc s

/-- DCX D (R179). -/
def execDcxD (s : State) : Result := decrementPair .de s

/-- DCX H (R179). -/
def execDcxH (s : State) : Result := decrementPair .hl s

/-- DCX SP (R179). -/
def execDcxSP (s : State) : Result := decrementPair .sp s

end Sys2Proof.Machine
end

