-- ==== Sys2Proof/Machine/Branch.lean ====
section
/-! DEFINITION. Group IV, branching (44_branch.md R230 to R239). -/

namespace Sys2Proof.Machine
open Sys2Proof

/-! ## Shared meanings -/

/-- J<condition> (R232): three bytes long whether or not it jumps. -/
def jumpIf (cc : Cond) (addr16 : Word) (s : State) : Result :=
  if s.flags.holds cc then .next (s.setPc addr16) else .next (s.advance 3)

/-- C<condition> (R234). -/
def callIf (cc : Cond) (addr16 : Word) (s : State) : Result :=
  if s.flags.holds cc then callTo s (s.nextPc 3) addr16 else .next (s.advance 3)

/-- R<condition> (R236). -/
def returnIf (cc : Cond) (s : State) : Result :=
  if s.flags.holds cc then returnFromStack s else .next (s.advance 1)

/-- RST n (R237, 60_exceptions.md R293): a one-byte call. -/
def restart (n : Fin 8) (s : State) : Result := callTo s (s.nextPc 1) (rstVector n)

/-! ## The instructions -/

/-- JMP addr16 (R231). -/
def execJmp (addr16 : Word) (s : State) : Result := .next (s.setPc addr16)

/-- JNZ addr16 (R232). -/
def execJnz (addr16 : Word) (s : State) : Result := jumpIf .nz addr16 s

/-- JZ addr16 (R232). -/
def execJz (addr16 : Word) (s : State) : Result := jumpIf .z addr16 s

/-- JNC addr16 (R232). -/
def execJnc (addr16 : Word) (s : State) : Result := jumpIf .nc addr16 s

/-- JC addr16 (R232). -/
def execJc (addr16 : Word) (s : State) : Result := jumpIf .c addr16 s

/-- JPO addr16 (R232). -/
def execJpo (addr16 : Word) (s : State) : Result := jumpIf .po addr16 s

/-- JPE addr16 (R232). -/
def execJpe (addr16 : Word) (s : State) : Result := jumpIf .pe addr16 s

/-- JP addr16 (R232). -/
def execJp (addr16 : Word) (s : State) : Result := jumpIf .p addr16 s

/-- JM addr16 (R232). -/
def execJm (addr16 : Word) (s : State) : Result := jumpIf .m addr16 s

/-- CALL addr16 (R233). -/
def execCall (addr16 : Word) (s : State) : Result := callTo s (s.nextPc 3) addr16

/-- CNZ addr16 (R234). -/
def execCnz (addr16 : Word) (s : State) : Result := callIf .nz addr16 s

/-- CZ addr16 (R234). -/
def execCz (addr16 : Word) (s : State) : Result := callIf .z addr16 s

/-- CNC addr16 (R234). -/
def execCnc (addr16 : Word) (s : State) : Result := callIf .nc addr16 s

/-- CC addr16 (R234). -/
def execCc (addr16 : Word) (s : State) : Result := callIf .c addr16 s

/-- CPO addr16 (R234). -/
def execCpo (addr16 : Word) (s : State) : Result := callIf .po addr16 s

/-- CPE addr16 (R234). -/
def execCpe (addr16 : Word) (s : State) : Result := callIf .pe addr16 s

/-- CP addr16 (R234). -/
def execCp (addr16 : Word) (s : State) : Result := callIf .p addr16 s

/-- CM addr16 (R234). -/
def execCm (addr16 : Word) (s : State) : Result := callIf .m addr16 s

/-- RET (R235). -/
def execRet (s : State) : Result := returnFromStack s

/-- RNZ (R236). -/
def execRnz (s : State) : Result := returnIf .nz s

/-- RZ (R236). -/
def execRz (s : State) : Result := returnIf .z s

/-- RNC (R236). -/
def execRnc (s : State) : Result := returnIf .nc s

/-- RC (R236). -/
def execRc (s : State) : Result := returnIf .c s

/-- RPO (R236). -/
def execRpo (s : State) : Result := returnIf .po s

/-- RPE (R236). -/
def execRpe (s : State) : Result := returnIf .pe s

/-- RP (R236). -/
def execRp (s : State) : Result := returnIf .p s

/-- RM (R236). -/
def execRm (s : State) : Result := returnIf .m s

/-- RST 0 (R237). -/
def execRst0 (s : State) : Result := restart 0 s

/-- RST 1 (R237). -/
def execRst1 (s : State) : Result := restart 1 s

/-- RST 2 (R237). -/
def execRst2 (s : State) : Result := restart 2 s

/-- RST 3 (R237). -/
def execRst3 (s : State) : Result := restart 3 s

/-- RST 4 (R237). -/
def execRst4 (s : State) : Result := restart 4 s

/-- RST 5 (R237). -/
def execRst5 (s : State) : Result := restart 5 s

/-- RST 6 (R237). -/
def execRst6 (s : State) : Result := restart 6 s

/-- RST 7 (R237). -/
def execRst7 (s : State) : Result := restart 7 s

/-- PCHL (R238). -/
def execPchl (s : State) : Result := .next (s.setPc s.hl)

end Sys2Proof.Machine
end

