-- ==== Sys2Proof/Machine/DataTransfer.lean ====
section
/-! DEFINITION. Group I, data transfer (41_data_transfer.md R120 to R141). -/

namespace Sys2Proof.Machine
open Sys2Proof

/-! ## Shared meanings -/

/-- MOV Rd, Rs (R120). -/
def movReg (dst src : Reg) (s : State) : Result := .next ((s.setReg dst (s.reg src)).advance 1)

/-- MOV Rd, M (R121): the address is formed before the register is written. -/
def movLoad (dst : Reg) (s : State) : Result :=
  load s s.hl fun v s1 => .next ((s1.setReg dst v).advance 1)

/-- MOV M, Rs (R122). -/
def movStore (src : Reg) (s : State) : Result :=
  store s s.hl (s.reg src) fun s1 => .next (s1.advance 1)

/-- MVI (R123, R124). -/
def moveImm (x : Loc) (d8 : Byte) (s : State) : Result :=
  storeLoc x d8 s fun s1 => .next (s1.advance 2)

/-- LDAX rp (R126). -/
def loadIndexed (p : IndexPair) (s : State) : Result :=
  load s (s.pair (pairOfIndex p)) fun v s1 => .next ((s1.setReg .a v).advance 1)

/-- STAX rp (R130). -/
def storeIndexed (p : IndexPair) (s : State) : Result :=
  store s (s.pair (pairOfIndex p)) (s.reg .a) fun s1 => .next (s1.advance 1)

/-- LXI rp, d16 (R127). -/
def loadPairImm (p : Pair) (d16 : Word) (s : State) : Result := .next ((s.setPair p d16).advance 3)

/-- PUSH rp (R135). -/
def pushPair (p : DataPair) (s : State) : Result :=
  push16 s (s.pair (pairOfData p)) fun s1 => .next (s1.advance 1)

/-- POP rp (R137). -/
def popPair (p : DataPair) (s : State) : Result :=
  pop16 s fun w s1 => .next ((s1.setPair (pairOfData p) w).advance 1)

/-! ## The instructions -/

/-- MOV B, B (R120). -/
def execMovBB (s : State) : Result := movReg .b .b s

/-- MOV B, C (R120). -/
def execMovBC (s : State) : Result := movReg .b .c s

/-- MOV B, D (R120). -/
def execMovBD (s : State) : Result := movReg .b .d s

/-- MOV B, E (R120). -/
def execMovBE (s : State) : Result := movReg .b .e s

/-- MOV B, H (R120). -/
def execMovBH (s : State) : Result := movReg .b .h s

/-- MOV B, L (R120). -/
def execMovBL (s : State) : Result := movReg .b .l s

/-- MOV B, A (R120). -/
def execMovBA (s : State) : Result := movReg .b .a s

/-- MOV C, B (R120). -/
def execMovCB (s : State) : Result := movReg .c .b s

/-- MOV C, C (R120). -/
def execMovCC (s : State) : Result := movReg .c .c s

/-- MOV C, D (R120). -/
def execMovCD (s : State) : Result := movReg .c .d s

/-- MOV C, E (R120). -/
def execMovCE (s : State) : Result := movReg .c .e s

/-- MOV C, H (R120). -/
def execMovCH (s : State) : Result := movReg .c .h s

/-- MOV C, L (R120). -/
def execMovCL (s : State) : Result := movReg .c .l s

/-- MOV C, A (R120). -/
def execMovCA (s : State) : Result := movReg .c .a s

/-- MOV D, B (R120). -/
def execMovDB (s : State) : Result := movReg .d .b s

/-- MOV D, C (R120). -/
def execMovDC (s : State) : Result := movReg .d .c s

/-- MOV D, D (R120). -/
def execMovDD (s : State) : Result := movReg .d .d s

/-- MOV D, E (R120). -/
def execMovDE (s : State) : Result := movReg .d .e s

/-- MOV D, H (R120). -/
def execMovDH (s : State) : Result := movReg .d .h s

/-- MOV D, L (R120). -/
def execMovDL (s : State) : Result := movReg .d .l s

/-- MOV D, A (R120). -/
def execMovDA (s : State) : Result := movReg .d .a s

/-- MOV E, B (R120). -/
def execMovEB (s : State) : Result := movReg .e .b s

/-- MOV E, C (R120). -/
def execMovEC (s : State) : Result := movReg .e .c s

/-- MOV E, D (R120). -/
def execMovED (s : State) : Result := movReg .e .d s

/-- MOV E, E (R120). -/
def execMovEE (s : State) : Result := movReg .e .e s

/-- MOV E, H (R120). -/
def execMovEH (s : State) : Result := movReg .e .h s

/-- MOV E, L (R120). -/
def execMovEL (s : State) : Result := movReg .e .l s

/-- MOV E, A (R120). -/
def execMovEA (s : State) : Result := movReg .e .a s

/-- MOV H, B (R120). -/
def execMovHB (s : State) : Result := movReg .h .b s

/-- MOV H, C (R120). -/
def execMovHC (s : State) : Result := movReg .h .c s

/-- MOV H, D (R120). -/
def execMovHD (s : State) : Result := movReg .h .d s

/-- MOV H, E (R120). -/
def execMovHE (s : State) : Result := movReg .h .e s

/-- MOV H, H (R120). -/
def execMovHH (s : State) : Result := movReg .h .h s

/-- MOV H, L (R120). -/
def execMovHL (s : State) : Result := movReg .h .l s

/-- MOV H, A (R120). -/
def execMovHA (s : State) : Result := movReg .h .a s

/-- MOV L, B (R120). -/
def execMovLB (s : State) : Result := movReg .l .b s

/-- MOV L, C (R120). -/
def execMovLC (s : State) : Result := movReg .l .c s

/-- MOV L, D (R120). -/
def execMovLD (s : State) : Result := movReg .l .d s

/-- MOV L, E (R120). -/
def execMovLE (s : State) : Result := movReg .l .e s

/-- MOV L, H (R120). -/
def execMovLH (s : State) : Result := movReg .l .h s

/-- MOV L, L (R120). -/
def execMovLL (s : State) : Result := movReg .l .l s

/-- MOV L, A (R120). -/
def execMovLA (s : State) : Result := movReg .l .a s

/-- MOV A, B (R120). -/
def execMovAB (s : State) : Result := movReg .a .b s

/-- MOV A, C (R120). -/
def execMovAC (s : State) : Result := movReg .a .c s

/-- MOV A, D (R120). -/
def execMovAD (s : State) : Result := movReg .a .d s

/-- MOV A, E (R120). -/
def execMovAE (s : State) : Result := movReg .a .e s

/-- MOV A, H (R120). -/
def execMovAH (s : State) : Result := movReg .a .h s

/-- MOV A, L (R120). -/
def execMovAL (s : State) : Result := movReg .a .l s

/-- MOV A, A (R120). -/
def execMovAA (s : State) : Result := movReg .a .a s

/-- MOV B, M (R121). -/
def execMovBM (s : State) : Result := movLoad .b s

/-- MOV C, M (R121). -/
def execMovCM (s : State) : Result := movLoad .c s

/-- MOV D, M (R121). -/
def execMovDM (s : State) : Result := movLoad .d s

/-- MOV E, M (R121). -/
def execMovEM (s : State) : Result := movLoad .e s

/-- MOV H, M (R121). -/
def execMovHM (s : State) : Result := movLoad .h s

/-- MOV L, M (R121). -/
def execMovLM (s : State) : Result := movLoad .l s

/-- MOV A, M (R121). -/
def execMovAM (s : State) : Result := movLoad .a s

/-- MOV M, B (R122). -/
def execMovMB (s : State) : Result := movStore .b s

/-- MOV M, C (R122). -/
def execMovMC (s : State) : Result := movStore .c s

/-- MOV M, D (R122). -/
def execMovMD (s : State) : Result := movStore .d s

/-- MOV M, E (R122). -/
def execMovME (s : State) : Result := movStore .e s

/-- MOV M, H (R122). -/
def execMovMH (s : State) : Result := movStore .h s

/-- MOV M, L (R122). -/
def execMovML (s : State) : Result := movStore .l s

/-- MOV M, A (R122). -/
def execMovMA (s : State) : Result := movStore .a s

/-- MVI B, d8 (R123). -/
def execMviB (d8 : Byte) (s : State) : Result := moveImm (.reg .b) d8 s

/-- MVI C, d8 (R123). -/
def execMviC (d8 : Byte) (s : State) : Result := moveImm (.reg .c) d8 s

/-- MVI D, d8 (R123). -/
def execMviD (d8 : Byte) (s : State) : Result := moveImm (.reg .d) d8 s

/-- MVI E, d8 (R123). -/
def execMviE (d8 : Byte) (s : State) : Result := moveImm (.reg .e) d8 s

/-- MVI H, d8 (R123). -/
def execMviH (d8 : Byte) (s : State) : Result := moveImm (.reg .h) d8 s

/-- MVI L, d8 (R123). -/
def execMviL (d8 : Byte) (s : State) : Result := moveImm (.reg .l) d8 s

/-- MVI A, d8 (R123). -/
def execMviA (d8 : Byte) (s : State) : Result := moveImm (.reg .a) d8 s

/-- MVI M, d8 (R124). -/
def execMviM (d8 : Byte) (s : State) : Result := moveImm .mem d8 s

/-- LDA addr16 (R125). -/
def execLda (addr16 : Word) (s : State) : Result := load s addr16 fun v s1 => .next ((s1.setReg .a v).advance 3)

/-- LDAX B (R126). -/
def execLdaxB (s : State) : Result := loadIndexed .bc s

/-- LDAX D (R126). -/
def execLdaxD (s : State) : Result := loadIndexed .de s

/-- LXI B, d16 (R127). -/
def execLxiB (d16 : Word) (s : State) : Result := loadPairImm .bc d16 s

/-- LXI D, d16 (R127). -/
def execLxiD (d16 : Word) (s : State) : Result := loadPairImm .de d16 s

/-- LXI H, d16 (R127). -/
def execLxiH (d16 : Word) (s : State) : Result := loadPairImm .hl d16 s

/-- LXI SP, d16 (R127). -/
def execLxiSP (d16 : Word) (s : State) : Result := loadPairImm .sp d16 s

/-- LHLD addr16 (R128). -/
def execLhld (addr16 : Word) (s : State) : Result :=
  load s addr16 fun l s1 =>
    load s1 (addr16 + 1) fun h s2 => .next (((s2.setReg .l l).setReg .h h).advance 3)

/-- STA addr16 (R129). -/
def execSta (addr16 : Word) (s : State) : Result := store s addr16 (s.reg .a) fun s1 => .next (s1.advance 3)

/-- STAX B (R130). -/
def execStaxB (s : State) : Result := storeIndexed .bc s

/-- STAX D (R130). -/
def execStaxD (s : State) : Result := storeIndexed .de s

/-- SHLD addr16 (R131). -/
def execShld (addr16 : Word) (s : State) : Result :=
  store s addr16 (s.reg .l) fun s1 =>
    store s1 (addr16 + 1) (s.reg .h) fun s2 => .next (s2.advance 3)

/-- SPHL (R132). -/
def execSphl (s : State) : Result := .next ((s.setSp s.hl).advance 1)

/-- XCHG (R133). -/
def execXchg (s : State) : Result := .next (((s.setPair .de s.hl).setPair .hl (s.pair .de)).advance 1)

/-- XTHL (R134): both reads come before both writes. -/
def execXthl (s : State) : Result :=
  load s s.sp fun l s1 =>
    load s1 (s.sp + 1) fun h s2 =>
      store s2 (s.sp + 1) (s.reg .h) fun s3 =>
        store s3 s.sp (s.reg .l) fun s4 => .next ((s4.setPair .hl (join h l)).advance 1)

/-- PUSH B (R135). -/
def execPushB (s : State) : Result := pushPair .bc s

/-- PUSH D (R135). -/
def execPushD (s : State) : Result := pushPair .de s

/-- PUSH H (R135). -/
def execPushH (s : State) : Result := pushPair .hl s

/-- PUSH PSW (R136): the three unused bits of the flag byte are free. -/
def execPushPSW (s : State) : Result :=
  push16 s.drawn (join (s.reg .a) (s.flags.pack (Config.pswUnused s.draws))) fun s1 =>
    .next (s1.advance 1)

/-- POP B (R137). -/
def execPopB (s : State) : Result := popPair .bc s

/-- POP D (R137). -/
def execPopD (s : State) : Result := popPair .de s

/-- POP H (R137). -/
def execPopH (s : State) : Result := popPair .hl s

/-- POP PSW (R138). -/
def execPopPSW (s : State) : Result :=
  pop16 s fun w s1 =>
    .next (((s1.setReg .a (hi w)).setFlags (Flags.unpack (lo w))).advance 1)

/-- OUT port8 (R139): recorded in the output trace. -/
def execOutPort (port8 : Byte) (s : State) : Result := .next ((s.emit (.port port8 (s.reg .a))).advance 2)

/-- IN port8 (R140): the answer is free. -/
def execInPort (port8 : Byte) (s : State) : Result := .next ((s.drawn.setReg .a (Config.portByte s.draws port8)).advance 2)

end Sys2Proof.Machine
end

