-- ==== Sys2Proof/Machine/Logical.lean ====
section
/-! DEFINITION. Group III, logical (43_logical.md R200 to R218). -/

namespace Sys2Proof.Machine
open Sys2Proof

/-- A and CF written, the other flags kept: the rotates (R215 to R218). -/
def rotateA (r : Byte × Bool) (s : State) : Result := .next (((s.setReg .a r.1).setCF r.2).advance 1)

/-! ## The instructions -/

/-- ANA B (R200). -/
def execAnaB (s : State) : Result := operateOnA .ana (.reg .b) s

/-- ANA C (R200). -/
def execAnaC (s : State) : Result := operateOnA .ana (.reg .c) s

/-- ANA D (R200). -/
def execAnaD (s : State) : Result := operateOnA .ana (.reg .d) s

/-- ANA E (R200). -/
def execAnaE (s : State) : Result := operateOnA .ana (.reg .e) s

/-- ANA H (R200). -/
def execAnaH (s : State) : Result := operateOnA .ana (.reg .h) s

/-- ANA L (R200). -/
def execAnaL (s : State) : Result := operateOnA .ana (.reg .l) s

/-- ANA A (R200). -/
def execAnaA (s : State) : Result := operateOnA .ana (.reg .a) s

/-- ANA M (R201). -/
def execAnaM (s : State) : Result := operateOnA .ana .mem s

/-- ANI d8 (R202). -/
def execAni (d8 : Byte) (s : State) : Result := operateOnA .ana (.imm d8) s

/-- ORA B (R203). -/
def execOraB (s : State) : Result := operateOnA .ora (.reg .b) s

/-- ORA C (R203). -/
def execOraC (s : State) : Result := operateOnA .ora (.reg .c) s

/-- ORA D (R203). -/
def execOraD (s : State) : Result := operateOnA .ora (.reg .d) s

/-- ORA E (R203). -/
def execOraE (s : State) : Result := operateOnA .ora (.reg .e) s

/-- ORA H (R203). -/
def execOraH (s : State) : Result := operateOnA .ora (.reg .h) s

/-- ORA L (R203). -/
def execOraL (s : State) : Result := operateOnA .ora (.reg .l) s

/-- ORA A (R203). -/
def execOraA (s : State) : Result := operateOnA .ora (.reg .a) s

/-- ORA M (R204). -/
def execOraM (s : State) : Result := operateOnA .ora .mem s

/-- ORI d8 (R205). -/
def execOri (d8 : Byte) (s : State) : Result := operateOnA .ora (.imm d8) s

/-- XRA B (R206). -/
def execXraB (s : State) : Result := operateOnA .xra (.reg .b) s

/-- XRA C (R206). -/
def execXraC (s : State) : Result := operateOnA .xra (.reg .c) s

/-- XRA D (R206). -/
def execXraD (s : State) : Result := operateOnA .xra (.reg .d) s

/-- XRA E (R206). -/
def execXraE (s : State) : Result := operateOnA .xra (.reg .e) s

/-- XRA H (R206). -/
def execXraH (s : State) : Result := operateOnA .xra (.reg .h) s

/-- XRA L (R206). -/
def execXraL (s : State) : Result := operateOnA .xra (.reg .l) s

/-- XRA A (R206). -/
def execXraA (s : State) : Result := operateOnA .xra (.reg .a) s

/-- XRA M (R207). -/
def execXraM (s : State) : Result := operateOnA .xra .mem s

/-- XRI d8 (R208). -/
def execXri (d8 : Byte) (s : State) : Result := operateOnA .xra (.imm d8) s

/-- CMP B (R209). -/
def execCmpB (s : State) : Result := operateOnA .cmp (.reg .b) s

/-- CMP C (R209). -/
def execCmpC (s : State) : Result := operateOnA .cmp (.reg .c) s

/-- CMP D (R209). -/
def execCmpD (s : State) : Result := operateOnA .cmp (.reg .d) s

/-- CMP E (R209). -/
def execCmpE (s : State) : Result := operateOnA .cmp (.reg .e) s

/-- CMP H (R209). -/
def execCmpH (s : State) : Result := operateOnA .cmp (.reg .h) s

/-- CMP L (R209). -/
def execCmpL (s : State) : Result := operateOnA .cmp (.reg .l) s

/-- CMP A (R209). -/
def execCmpA (s : State) : Result := operateOnA .cmp (.reg .a) s

/-- CMP M (R210). -/
def execCmpM (s : State) : Result := operateOnA .cmp .mem s

/-- CPI d8 (R211). -/
def execCpi (d8 : Byte) (s : State) : Result := operateOnA .cmp (.imm d8) s

/-- CMA (R212). -/
def execCma (s : State) : Result := .next ((s.setReg .a (~~~s.reg .a)).advance 1)

/-- CMC (R213). -/
def execCmc (s : State) : Result := .next ((s.setCF (!s.flags.cf)).advance 1)

/-- STC (R214). -/
def execStc (s : State) : Result := .next ((s.setCF true).advance 1)

/-- RLC (R215). -/
def execRlc (s : State) : Result := rotateA (rotL (s.reg .a)) s

/-- RAL (R216). -/
def execRal (s : State) : Result := rotateA (rotLC (s.reg .a) s.flags.cf) s

/-- RRC (R217). -/
def execRrc (s : State) : Result := rotateA (rotR (s.reg .a)) s

/-- RAR (R218). -/
def execRar (s : State) : Result := rotateA (rotRC (s.reg .a) s.flags.cf) s

end Sys2Proof.Machine
end

