-- ==== Sys2Proof/Machine/MachineControl.lean ====
section
/-! DEFINITION. Group V, machine control (45_machine_control.md R260 to R265), and the bytes that spell no instruction. -/

namespace Sys2Proof.Machine
open Sys2Proof

/-- DI (R260): at once. -/
def execDi (s : State) : Result := .next ((s.setCtl { s.ctl with ie := false, eiPending := false }).advance 1)

/-- EI (R261): EI_PENDING keeps the maskable interrupts out for one more boundary. -/
def execEi (s : State) : Result := .next ((s.setCtl { s.ctl with ie := true, eiPending := true }).advance 1)

/-- SIM (R262). -/
def execSim (s : State) : Result := .next ((s.setCtl (s.ctl.sim (s.reg .a))).advance 1)

/-- RIM (R263): D7 is free. -/
def execRim (s : State) : Result :=
  let byte := s.ctl.rimByte (Config.sidLevel s.draws)
  .next (((s.drawn.setCtl { s.ctl with trapShadowValid := false }).setReg .a byte).advance 1)

/-- HLT (R264). -/
def execHlt (s : State) : Result := .next ((s.advance 1).setCtl { s.ctl with halted := true })

/-- NOP (R265). -/
def execNop (s : State) : Result := .next (s.advance 1)

/-- One of the ten bytes that spell no instruction: the model refuses, nothing changes (30_encoding.md R99, D1). -/
def execUndefined (opcode : Byte) (_s : State) : Result := .refused (.illegalOpcode opcode)

end Sys2Proof.Machine
end

