-- ==== Sys2Proof/WellFormed.lean ====
section
/-! DEFINITION. Which terms of `Instr` are instructions of the machine. -/

namespace Sys2Proof

/-- The ten first bytes that spell no instruction (30_encoding.md R96, R99). -/
def undefinedOpcodes : List Byte :=
  [0x08, 0x10, 0x18, 0x28, 0x38, 0xCB, 0xD9, 0xDD, 0xED, 0xFD]

/-- Every operand value of every instruction is legal (30_encoding.md R95); only the byte of `undefined` is restricted, to
the ten values of R99. -/
def Instr.wellFormed : Instr → Bool
  | .undefined opcode => undefinedOpcodes.contains opcode
  | .movBB | .movBC | .movBD | .movBE | .movBH | .movBL | .movBA | .movCB
  | .movCC | .movCD | .movCE | .movCH | .movCL | .movCA | .movDB | .movDC
  | .movDD | .movDE | .movDH | .movDL | .movDA | .movEB | .movEC | .movED
  | .movEE | .movEH | .movEL | .movEA | .movHB | .movHC | .movHD | .movHE
  | .movHH | .movHL | .movHA | .movLB | .movLC | .movLD | .movLE | .movLH
  | .movLL | .movLA | .movAB | .movAC | .movAD | .movAE | .movAH | .movAL
  | .movAA | .movBM | .movCM | .movDM | .movEM | .movHM | .movLM | .movAM
  | .movMB | .movMC | .movMD | .movME | .movMH | .movML | .movMA | .mviB _
  | .mviC _ | .mviD _ | .mviE _ | .mviH _ | .mviL _ | .mviA _ | .mviM _ | .lda _
  | .ldaxB | .ldaxD | .lxiB _ | .lxiD _ | .lxiH _ | .lxiSP _ | .lhld _ | .sta _
  | .staxB | .staxD | .shld _ | .sphl | .xchg | .xthl | .pushB | .pushD
  | .pushH | .pushPSW | .popB | .popD | .popH | .popPSW | .outPort _ | .inPort _
  | .addB | .addC | .addD | .addE | .addH | .addL | .addA | .addM
  | .adi _ | .adcB | .adcC | .adcD | .adcE | .adcH | .adcL | .adcA
  | .adcM | .aci _ | .daa | .dadB | .dadD | .dadH | .dadSP | .subB
  | .subC | .subD | .subE | .subH | .subL | .subA | .subM | .sui _
  | .sbbB | .sbbC | .sbbD | .sbbE | .sbbH | .sbbL | .sbbA | .sbbM
  | .sbi _ | .inrB | .inrC | .inrD | .inrE | .inrH | .inrL | .inrA
  | .inrM | .inxB | .inxD | .inxH | .inxSP | .dcrB | .dcrC | .dcrD
  | .dcrE | .dcrH | .dcrL | .dcrA | .dcrM | .dcxB | .dcxD | .dcxH
  | .dcxSP | .anaB | .anaC | .anaD | .anaE | .anaH | .anaL | .anaA
  | .anaM | .ani _ | .oraB | .oraC | .oraD | .oraE | .oraH | .oraL
  | .oraA | .oraM | .ori _ | .xraB | .xraC | .xraD | .xraE | .xraH
  | .xraL | .xraA | .xraM | .xri _ | .cmpB | .cmpC | .cmpD | .cmpE
  | .cmpH | .cmpL | .cmpA | .cmpM | .cpi _ | .cma | .cmc | .stc
  | .rlc | .ral | .rrc | .rar | .jmp _ | .jnz _ | .jz _ | .jnc _
  | .jc _ | .jpo _ | .jpe _ | .jp _ | .jm _ | .call _ | .cnz _ | .cz _
  | .cnc _ | .cc _ | .cpo _ | .cpe _ | .cp _ | .cm _ | .ret | .rnz
  | .rz | .rnc | .rc | .rpo | .rpe | .rp | .rm | .rst0
  | .rst1 | .rst2 | .rst3 | .rst4 | .rst5 | .rst6 | .rst7 | .pchl
  | .di | .ei | .sim | .rim | .hlt | .nop => true

end Sys2Proof
end

