-- ==== Sys2Proof/Decode.lean ====
section
/-! DEFINITION. Bytes to instructions and back. The decoder tries the patterns of 30_encoding.md R100 in their order; the
encoder is written row by row from the map of R98 (spec/opcode_table.json), so the two are independent readings. -/

namespace Sys2Proof
open Machine (hi lo join field3 fieldRP group low4)

/-- The constructor of `Instr` that a form with its operands stands for. -/
def Form.instr : Form → Instr
  | .mov .b .b => .movBB
  | .mov .b .c => .movBC
  | .mov .b .d => .movBD
  | .mov .b .e => .movBE
  | .mov .b .h => .movBH
  | .mov .b .l => .movBL
  | .mov .b .a => .movBA
  | .mov .c .b => .movCB
  | .mov .c .c => .movCC
  | .mov .c .d => .movCD
  | .mov .c .e => .movCE
  | .mov .c .h => .movCH
  | .mov .c .l => .movCL
  | .mov .c .a => .movCA
  | .mov .d .b => .movDB
  | .mov .d .c => .movDC
  | .mov .d .d => .movDD
  | .mov .d .e => .movDE
  | .mov .d .h => .movDH
  | .mov .d .l => .movDL
  | .mov .d .a => .movDA
  | .mov .e .b => .movEB
  | .mov .e .c => .movEC
  | .mov .e .d => .movED
  | .mov .e .e => .movEE
  | .mov .e .h => .movEH
  | .mov .e .l => .movEL
  | .mov .e .a => .movEA
  | .mov .h .b => .movHB
  | .mov .h .c => .movHC
  | .mov .h .d => .movHD
  | .mov .h .e => .movHE
  | .mov .h .h => .movHH
  | .mov .h .l => .movHL
  | .mov .h .a => .movHA
  | .mov .l .b => .movLB
  | .mov .l .c => .movLC
  | .mov .l .d => .movLD
  | .mov .l .e => .movLE
  | .mov .l .h => .movLH
  | .mov .l .l => .movLL
  | .mov .l .a => .movLA
  | .mov .a .b => .movAB
  | .mov .a .c => .movAC
  | .mov .a .d => .movAD
  | .mov .a .e => .movAE
  | .mov .a .h => .movAH
  | .mov .a .l => .movAL
  | .mov .a .a => .movAA
  | .movFromM .b => .movBM
  | .movFromM .c => .movCM
  | .movFromM .d => .movDM
  | .movFromM .e => .movEM
  | .movFromM .h => .movHM
  | .movFromM .l => .movLM
  | .movFromM .a => .movAM
  | .movToM .b => .movMB
  | .movToM .c => .movMC
  | .movToM .d => .movMD
  | .movToM .e => .movME
  | .movToM .h => .movMH
  | .movToM .l => .movML
  | .movToM .a => .movMA
  | .mvi (.reg .b) d8 => .mviB d8
  | .mvi (.reg .c) d8 => .mviC d8
  | .mvi (.reg .d) d8 => .mviD d8
  | .mvi (.reg .e) d8 => .mviE d8
  | .mvi (.reg .h) d8 => .mviH d8
  | .mvi (.reg .l) d8 => .mviL d8
  | .mvi (.reg .a) d8 => .mviA d8
  | .mvi .mem d8 => .mviM d8
  | .lda addr16 => .lda addr16
  | .ldax .bc => .ldaxB
  | .ldax .de => .ldaxD
  | .lxi .bc d16 => .lxiB d16
  | .lxi .de d16 => .lxiD d16
  | .lxi .hl d16 => .lxiH d16
  | .lxi .sp d16 => .lxiSP d16
  | .lhld addr16 => .lhld addr16
  | .sta addr16 => .sta addr16
  | .stax .bc => .staxB
  | .stax .de => .staxD
  | .shld addr16 => .shld addr16
  | .sphl => .sphl
  | .xchg => .xchg
  | .xthl => .xthl
  | .push .bc => .pushB
  | .push .de => .pushD
  | .push .hl => .pushH
  | .pushPsw => .pushPSW
  | .pop .bc => .popB
  | .pop .de => .popD
  | .pop .hl => .popH
  | .popPsw => .popPSW
  | .outPort port8 => .outPort port8
  | .inPort port8 => .inPort port8
  | .alu .add (.reg .b) => .addB
  | .alu .add (.reg .c) => .addC
  | .alu .add (.reg .d) => .addD
  | .alu .add (.reg .e) => .addE
  | .alu .add (.reg .h) => .addH
  | .alu .add (.reg .l) => .addL
  | .alu .add (.reg .a) => .addA
  | .alu .add .mem => .addM
  | .alu .add (.imm d8) => .adi d8
  | .alu .adc (.reg .b) => .adcB
  | .alu .adc (.reg .c) => .adcC
  | .alu .adc (.reg .d) => .adcD
  | .alu .adc (.reg .e) => .adcE
  | .alu .adc (.reg .h) => .adcH
  | .alu .adc (.reg .l) => .adcL
  | .alu .adc (.reg .a) => .adcA
  | .alu .adc .mem => .adcM
  | .alu .adc (.imm d8) => .aci d8
  | .daa => .daa
  | .dad .bc => .dadB
  | .dad .de => .dadD
  | .dad .hl => .dadH
  | .dad .sp => .dadSP
  | .alu .sub (.reg .b) => .subB
  | .alu .sub (.reg .c) => .subC
  | .alu .sub (.reg .d) => .subD
  | .alu .sub (.reg .e) => .subE
  | .alu .sub (.reg .h) => .subH
  | .alu .sub (.reg .l) => .subL
  | .alu .sub (.reg .a) => .subA
  | .alu .sub .mem => .subM
  | .alu .sub (.imm d8) => .sui d8
  | .alu .sbb (.reg .b) => .sbbB
  | .alu .sbb (.reg .c) => .sbbC
  | .alu .sbb (.reg .d) => .sbbD
  | .alu .sbb (.reg .e) => .sbbE
  | .alu .sbb (.reg .h) => .sbbH
  | .alu .sbb (.reg .l) => .sbbL
  | .alu .sbb (.reg .a) => .sbbA
  | .alu .sbb .mem => .sbbM
  | .alu .sbb (.imm d8) => .sbi d8
  | .inr (.reg .b) => .inrB
  | .inr (.reg .c) => .inrC
  | .inr (.reg .d) => .inrD
  | .inr (.reg .e) => .inrE
  | .inr (.reg .h) => .inrH
  | .inr (.reg .l) => .inrL
  | .inr (.reg .a) => .inrA
  | .inr .mem => .inrM
  | .inx .bc => .inxB
  | .inx .de => .inxD
  | .inx .hl => .inxH
  | .inx .sp => .inxSP
  | .dcr (.reg .b) => .dcrB
  | .dcr (.reg .c) => .dcrC
  | .dcr (.reg .d) => .dcrD
  | .dcr (.reg .e) => .dcrE
  | .dcr (.reg .h) => .dcrH
  | .dcr (.reg .l) => .dcrL
  | .dcr (.reg .a) => .dcrA
  | .dcr .mem => .dcrM
  | .dcx .bc => .dcxB
  | .dcx .de => .dcxD
  | .dcx .hl => .dcxH
  | .dcx .sp => .dcxSP
  | .alu .ana (.reg .b) => .anaB
  | .alu .ana (.reg .c) => .anaC
  | .alu .ana (.reg .d) => .anaD
  | .alu .ana (.reg .e) => .anaE
  | .alu .ana (.reg .h) => .anaH
  | .alu .ana (.reg .l) => .anaL
  | .alu .ana (.reg .a) => .anaA
  | .alu .ana .mem => .anaM
  | .alu .ana (.imm d8) => .ani d8
  | .alu .ora (.reg .b) => .oraB
  | .alu .ora (.reg .c) => .oraC
  | .alu .ora (.reg .d) => .oraD
  | .alu .ora (.reg .e) => .oraE
  | .alu .ora (.reg .h) => .oraH
  | .alu .ora (.reg .l) => .oraL
  | .alu .ora (.reg .a) => .oraA
  | .alu .ora .mem => .oraM
  | .alu .ora (.imm d8) => .ori d8
  | .alu .xra (.reg .b) => .xraB
  | .alu .xra (.reg .c) => .xraC
  | .alu .xra (.reg .d) => .xraD
  | .alu .xra (.reg .e) => .xraE
  | .alu .xra (.reg .h) => .xraH
  | .alu .xra (.reg .l) => .xraL
  | .alu .xra (.reg .a) => .xraA
  | .alu .xra .mem => .xraM
  | .alu .xra (.imm d8) => .xri d8
  | .alu .cmp (.reg .b) => .cmpB
  | .alu .cmp (.reg .c) => .cmpC
  | .alu .cmp (.reg .d) => .cmpD
  | .alu .cmp (.reg .e) => .cmpE
  | .alu .cmp (.reg .h) => .cmpH
  | .alu .cmp (.reg .l) => .cmpL
  | .alu .cmp (.reg .a) => .cmpA
  | .alu .cmp .mem => .cmpM
  | .alu .cmp (.imm d8) => .cpi d8
  | .cma => .cma
  | .cmc => .cmc
  | .stc => .stc
  | .rlc => .rlc
  | .ral => .ral
  | .rrc => .rrc
  | .rar => .rar
  | .jmp addr16 => .jmp addr16
  | .jcc .nz addr16 => .jnz addr16
  | .jcc .z addr16 => .jz addr16
  | .jcc .nc addr16 => .jnc addr16
  | .jcc .c addr16 => .jc addr16
  | .jcc .po addr16 => .jpo addr16
  | .jcc .pe addr16 => .jpe addr16
  | .jcc .p addr16 => .jp addr16
  | .jcc .m addr16 => .jm addr16
  | .call addr16 => .call addr16
  | .ccc .nz addr16 => .cnz addr16
  | .ccc .z addr16 => .cz addr16
  | .ccc .nc addr16 => .cnc addr16
  | .ccc .c addr16 => .cc addr16
  | .ccc .po addr16 => .cpo addr16
  | .ccc .pe addr16 => .cpe addr16
  | .ccc .p addr16 => .cp addr16
  | .ccc .m addr16 => .cm addr16
  | .ret => .ret
  | .rcc .nz => .rnz
  | .rcc .z => .rz
  | .rcc .nc => .rnc
  | .rcc .c => .rc
  | .rcc .po => .rpo
  | .rcc .pe => .rpe
  | .rcc .p => .rp
  | .rcc .m => .rm
  | .rst 0 => .rst0
  | .rst 1 => .rst1
  | .rst 2 => .rst2
  | .rst 3 => .rst3
  | .rst 4 => .rst4
  | .rst 5 => .rst5
  | .rst 6 => .rst6
  | .rst 7 => .rst7
  | .pchl => .pchl
  | .di => .di
  | .ei => .ei
  | .sim => .sim
  | .rim => .rim
  | .hlt => .hlt
  | .nop => .nop
  | .undefined opcode => .undefined opcode

/-- The form of an instruction, its operands as arguments (30_encoding.md R103). -/
def Instr.form : Instr → Form
  | .movBB => .mov .b .b
  | .movBC => .mov .b .c
  | .movBD => .mov .b .d
  | .movBE => .mov .b .e
  | .movBH => .mov .b .h
  | .movBL => .mov .b .l
  | .movBA => .mov .b .a
  | .movCB => .mov .c .b
  | .movCC => .mov .c .c
  | .movCD => .mov .c .d
  | .movCE => .mov .c .e
  | .movCH => .mov .c .h
  | .movCL => .mov .c .l
  | .movCA => .mov .c .a
  | .movDB => .mov .d .b
  | .movDC => .mov .d .c
  | .movDD => .mov .d .d
  | .movDE => .mov .d .e
  | .movDH => .mov .d .h
  | .movDL => .mov .d .l
  | .movDA => .mov .d .a
  | .movEB => .mov .e .b
  | .movEC => .mov .e .c
  | .movED => .mov .e .d
  | .movEE => .mov .e .e
  | .movEH => .mov .e .h
  | .movEL => .mov .e .l
  | .movEA => .mov .e .a
  | .movHB => .mov .h .b
  | .movHC => .mov .h .c
  | .movHD => .mov .h .d
  | .movHE => .mov .h .e
  | .movHH => .mov .h .h
  | .movHL => .mov .h .l
  | .movHA => .mov .h .a
  | .movLB => .mov .l .b
  | .movLC => .mov .l .c
  | .movLD => .mov .l .d
  | .movLE => .mov .l .e
  | .movLH => .mov .l .h
  | .movLL => .mov .l .l
  | .movLA => .mov .l .a
  | .movAB => .mov .a .b
  | .movAC => .mov .a .c
  | .movAD => .mov .a .d
  | .movAE => .mov .a .e
  | .movAH => .mov .a .h
  | .movAL => .mov .a .l
  | .movAA => .mov .a .a
  | .movBM => .movFromM .b
  | .movCM => .movFromM .c
  | .movDM => .movFromM .d
  | .movEM => .movFromM .e
  | .movHM => .movFromM .h
  | .movLM => .movFromM .l
  | .movAM => .movFromM .a
  | .movMB => .movToM .b
  | .movMC => .movToM .c
  | .movMD => .movToM .d
  | .movME => .movToM .e
  | .movMH => .movToM .h
  | .movML => .movToM .l
  | .movMA => .movToM .a
  | .mviB d8 => .mvi (.reg .b) d8
  | .mviC d8 => .mvi (.reg .c) d8
  | .mviD d8 => .mvi (.reg .d) d8
  | .mviE d8 => .mvi (.reg .e) d8
  | .mviH d8 => .mvi (.reg .h) d8
  | .mviL d8 => .mvi (.reg .l) d8
  | .mviA d8 => .mvi (.reg .a) d8
  | .mviM d8 => .mvi .mem d8
  | .lda addr16 => .lda addr16
  | .ldaxB => .ldax .bc
  | .ldaxD => .ldax .de
  | .lxiB d16 => .lxi .bc d16
  | .lxiD d16 => .lxi .de d16
  | .lxiH d16 => .lxi .hl d16
  | .lxiSP d16 => .lxi .sp d16
  | .lhld addr16 => .lhld addr16
  | .sta addr16 => .sta addr16
  | .staxB => .stax .bc
  | .staxD => .stax .de
  | .shld addr16 => .shld addr16
  | .sphl => .sphl
  | .xchg => .xchg
  | .xthl => .xthl
  | .pushB => .push .bc
  | .pushD => .push .de
  | .pushH => .push .hl
  | .pushPSW => .pushPsw
  | .popB => .pop .bc
  | .popD => .pop .de
  | .popH => .pop .hl
  | .popPSW => .popPsw
  | .outPort port8 => .outPort port8
  | .inPort port8 => .inPort port8
  | .addB => .alu .add (.reg .b)
  | .addC => .alu .add (.reg .c)
  | .addD => .alu .add (.reg .d)
  | .addE => .alu .add (.reg .e)
  | .addH => .alu .add (.reg .h)
  | .addL => .alu .add (.reg .l)
  | .addA => .alu .add (.reg .a)
  | .addM => .alu .add .mem
  | .adi d8 => .alu .add (.imm d8)
  | .adcB => .alu .adc (.reg .b)
  | .adcC => .alu .adc (.reg .c)
  | .adcD => .alu .adc (.reg .d)
  | .adcE => .alu .adc (.reg .e)
  | .adcH => .alu .adc (.reg .h)
  | .adcL => .alu .adc (.reg .l)
  | .adcA => .alu .adc (.reg .a)
  | .adcM => .alu .adc .mem
  | .aci d8 => .alu .adc (.imm d8)
  | .daa => .daa
  | .dadB => .dad .bc
  | .dadD => .dad .de
  | .dadH => .dad .hl
  | .dadSP => .dad .sp
  | .subB => .alu .sub (.reg .b)
  | .subC => .alu .sub (.reg .c)
  | .subD => .alu .sub (.reg .d)
  | .subE => .alu .sub (.reg .e)
  | .subH => .alu .sub (.reg .h)
  | .subL => .alu .sub (.reg .l)
  | .subA => .alu .sub (.reg .a)
  | .subM => .alu .sub .mem
  | .sui d8 => .alu .sub (.imm d8)
  | .sbbB => .alu .sbb (.reg .b)
  | .sbbC => .alu .sbb (.reg .c)
  | .sbbD => .alu .sbb (.reg .d)
  | .sbbE => .alu .sbb (.reg .e)
  | .sbbH => .alu .sbb (.reg .h)
  | .sbbL => .alu .sbb (.reg .l)
  | .sbbA => .alu .sbb (.reg .a)
  | .sbbM => .alu .sbb .mem
  | .sbi d8 => .alu .sbb (.imm d8)
  | .inrB => .inr (.reg .b)
  | .inrC => .inr (.reg .c)
  | .inrD => .inr (.reg .d)
  | .inrE => .inr (.reg .e)
  | .inrH => .inr (.reg .h)
  | .inrL => .inr (.reg .l)
  | .inrA => .inr (.reg .a)
  | .inrM => .inr .mem
  | .inxB => .inx .bc
  | .inxD => .inx .de
  | .inxH => .inx .hl
  | .inxSP => .inx .sp
  | .dcrB => .dcr (.reg .b)
  | .dcrC => .dcr (.reg .c)
  | .dcrD => .dcr (.reg .d)
  | .dcrE => .dcr (.reg .e)
  | .dcrH => .dcr (.reg .h)
  | .dcrL => .dcr (.reg .l)
  | .dcrA => .dcr (.reg .a)
  | .dcrM => .dcr .mem
  | .dcxB => .dcx .bc
  | .dcxD => .dcx .de
  | .dcxH => .dcx .hl
  | .dcxSP => .dcx .sp
  | .anaB => .alu .ana (.reg .b)
  | .anaC => .alu .ana (.reg .c)
  | .anaD => .alu .ana (.reg .d)
  | .anaE => .alu .ana (.reg .e)
  | .anaH => .alu .ana (.reg .h)
  | .anaL => .alu .ana (.reg .l)
  | .anaA => .alu .ana (.reg .a)
  | .anaM => .alu .ana .mem
  | .ani d8 => .alu .ana (.imm d8)
  | .oraB => .alu .ora (.reg .b)
  | .oraC => .alu .ora (.reg .c)
  | .oraD => .alu .ora (.reg .d)
  | .oraE => .alu .ora (.reg .e)
  | .oraH => .alu .ora (.reg .h)
  | .oraL => .alu .ora (.reg .l)
  | .oraA => .alu .ora (.reg .a)
  | .oraM => .alu .ora .mem
  | .ori d8 => .alu .ora (.imm d8)
  | .xraB => .alu .xra (.reg .b)
  | .xraC => .alu .xra (.reg .c)
  | .xraD => .alu .xra (.reg .d)
  | .xraE => .alu .xra (.reg .e)
  | .xraH => .alu .xra (.reg .h)
  | .xraL => .alu .xra (.reg .l)
  | .xraA => .alu .xra (.reg .a)
  | .xraM => .alu .xra .mem
  | .xri d8 => .alu .xra (.imm d8)
  | .cmpB => .alu .cmp (.reg .b)
  | .cmpC => .alu .cmp (.reg .c)
  | .cmpD => .alu .cmp (.reg .d)
  | .cmpE => .alu .cmp (.reg .e)
  | .cmpH => .alu .cmp (.reg .h)
  | .cmpL => .alu .cmp (.reg .l)
  | .cmpA => .alu .cmp (.reg .a)
  | .cmpM => .alu .cmp .mem
  | .cpi d8 => .alu .cmp (.imm d8)
  | .cma => .cma
  | .cmc => .cmc
  | .stc => .stc
  | .rlc => .rlc
  | .ral => .ral
  | .rrc => .rrc
  | .rar => .rar
  | .jmp addr16 => .jmp addr16
  | .jnz addr16 => .jcc .nz addr16
  | .jz addr16 => .jcc .z addr16
  | .jnc addr16 => .jcc .nc addr16
  | .jc addr16 => .jcc .c addr16
  | .jpo addr16 => .jcc .po addr16
  | .jpe addr16 => .jcc .pe addr16
  | .jp addr16 => .jcc .p addr16
  | .jm addr16 => .jcc .m addr16
  | .call addr16 => .call addr16
  | .cnz addr16 => .ccc .nz addr16
  | .cz addr16 => .ccc .z addr16
  | .cnc addr16 => .ccc .nc addr16
  | .cc addr16 => .ccc .c addr16
  | .cpo addr16 => .ccc .po addr16
  | .cpe addr16 => .ccc .pe addr16
  | .cp addr16 => .ccc .p addr16
  | .cm addr16 => .ccc .m addr16
  | .ret => .ret
  | .rnz => .rcc .nz
  | .rz => .rcc .z
  | .rnc => .rcc .nc
  | .rc => .rcc .c
  | .rpo => .rcc .po
  | .rpe => .rcc .pe
  | .rp => .rcc .p
  | .rm => .rcc .m
  | .rst0 => .rst 0
  | .rst1 => .rst 1
  | .rst2 => .rst 2
  | .rst3 => .rst 3
  | .rst4 => .rst 4
  | .rst5 => .rst 5
  | .rst6 => .rst 6
  | .rst7 => .rst 7
  | .pchl => .pchl
  | .di => .di
  | .ei => .ei
  | .sim => .sim
  | .rim => .rim
  | .hlt => .hlt
  | .nop => .nop
  | .undefined opcode => .undefined opcode

/-- The length in bytes (30_encoding.md R91, R96); the bytes that spell no instruction have none (R99). -/
def Form.length : Form → Option Nat
  | .mov _ _ | .movFromM _ | .movToM _ => some 1
  | .mvi _ _ => some 2
  | .lda _ | .lhld _ | .sta _ | .shld _ | .lxi _ _ => some 3
  | .ldax _ | .stax _ | .sphl | .xchg | .xthl => some 1
  | .push _ | .pushPsw | .pop _ | .popPsw => some 1
  | .outPort _ | .inPort _ => some 2
  | .alu _ (.reg _) | .alu _ .mem => some 1
  | .alu _ (.imm _) => some 2
  | .daa | .dad _ | .inr _ | .inx _ | .dcr _ | .dcx _ => some 1
  | .cma | .cmc | .stc | .rlc | .ral | .rrc | .rar => some 1
  | .jmp _ | .jcc _ _ | .call _ | .ccc _ _ => some 3
  | .ret | .rcc _ | .rst _ | .pchl => some 1
  | .di | .ei | .sim | .rim | .hlt | .nop => some 1
  | .undefined _ => none

/-- DDD or SSS: B 000, C 001, D 010, E 011, H 100, L 101, M 110, A 111 (30_encoding.md R92). -/
def locOf (code : BitVec 3) : Loc :=
  if code = 0 then .reg .b
  else if code = 1 then .reg .c
  else if code = 2 then .reg .d
  else if code = 3 then .reg .e
  else if code = 4 then .reg .h
  else if code = 5 then .reg .l
  else if code = 6 then .mem
  else .reg .a

/-- RP: BC 00, DE 01, HL 10, SP 11 (30_encoding.md R93). -/
def pairOf (code : BitVec 2) : Pair :=
  if code = 0 then .bc else if code = 1 then .de else if code = 2 then .hl else .sp

/-- CCC: NZ 000, Z 001, NC 010, C 011, PO 100, PE 101, P 110, M 111 (30_encoding.md R94). -/
def condOf (code : BitVec 3) : Cond :=
  if code = 0 then .nz
  else if code = 1 then .z
  else if code = 2 then .nc
  else if code = 3 then .c
  else if code = 4 then .po
  else if code = 5 then .pe
  else if code = 6 then .p
  else .m

/-- ALU: ADD 000, ADC 001, SUB 010, SBB 011, ANA 100, XRA 101, ORA 110, CMP 111 (30_encoding.md R91). -/
def aluOf (code : BitVec 3) : AluOp :=
  if code = 0 then .add
  else if code = 1 then .adc
  else if code = 2 then .sub
  else if code = 3 then .sbb
  else if code = 4 then .ana
  else if code = 5 then .xra
  else if code = 6 then .ora
  else .cmp

/-- The location as the second operand of an 8-bit operation. -/
def Loc.operand : Loc → Operand
  | .reg r => .reg r
  | .mem => .mem

/-- What the first byte decides: the length, and the instruction up to the bytes that follow (30_encoding.md R90, R91). -/
inductive Format where
  /-- Format B1: the opcode alone. -/
  | b1 (f : Form)
  /-- Format B2: one byte of data or a port follows. -/
  | b2 (f : Byte → Form)
  /-- Format B3: the low, then the high byte of a word follow. -/
  | b3 (f : Word → Form)
  /-- Format B3 of a conditional jump or call, whose third byte is read only when the condition holds (20_memory.md R63). -/
  | b3cond (cc : Cond) (f : Word → Form)
  /-- One of the ten bytes that spell no instruction and have no length (R99). -/
  | none (opcode : Byte)

/-- MOV, by its two fields (R100 step 2). Both 110 is HLT, which R100 takes in step 1. -/
def movForm : Loc → Loc → Form
  | .reg dst, .reg src => .mov dst src
  | .reg dst, .mem => .movFromM dst
  | .mem, .reg src => .movToM src
  | .mem, .mem => .hlt

/-- The first byte's meaning, by the patterns of 30_encoding.md R100 in their order, the first match winning; a byte no
pattern takes spells no instruction. -/
def decodeOpcode (b : Byte) : Format :=
  if b = 0x76 then .b1 .hlt
  else if group b = 1 then .b1 (movForm (locOf (field3 b 3)) (locOf (field3 b 0)))
  else if group b = 2 then .b1 (.alu (aluOf (field3 b 3)) (locOf (field3 b 0)).operand)
  else if group b = 0 ∧ field3 b 0 = 6 then .b2 (fun d8 => .mvi (locOf (field3 b 3)) d8)
  else if group b = 0 ∧ field3 b 0 = 4 then .b1 (.inr (locOf (field3 b 3)))
  else if group b = 0 ∧ field3 b 0 = 5 then .b1 (.dcr (locOf (field3 b 3)))
  else if group b = 0 ∧ low4 b = 0b0001 then .b3 (fun d16 => .lxi (pairOf (fieldRP b)) d16)
  else if group b = 0 ∧ low4 b = 0b1001 then .b1 (.dad (pairOf (fieldRP b)))
  else if group b = 0 ∧ low4 b = 0b0011 then .b1 (.inx (pairOf (fieldRP b)))
  else if group b = 0 ∧ low4 b = 0b1011 then .b1 (.dcx (pairOf (fieldRP b)))
  else if b = 0x02 then .b1 (.stax .bc)
  else if b = 0x12 then .b1 (.stax .de)
  else if b = 0x0A then .b1 (.ldax .bc)
  else if b = 0x1A then .b1 (.ldax .de)
  else if b = 0x22 then .b3 .shld
  else if b = 0x2A then .b3 .lhld
  else if b = 0x32 then .b3 .sta
  else if b = 0x3A then .b3 .lda
  else if b = 0x07 then .b1 .rlc
  else if b = 0x0F then .b1 .rrc
  else if b = 0x17 then .b1 .ral
  else if b = 0x1F then .b1 .rar
  else if b = 0x27 then .b1 .daa
  else if b = 0x2F then .b1 .cma
  else if b = 0x37 then .b1 .stc
  else if b = 0x3F then .b1 .cmc
  else if b = 0x00 then .b1 .nop
  else if b = 0x20 then .b1 .rim
  else if b = 0x30 then .b1 .sim
  else if group b = 3 ∧ field3 b 0 = 6 then .b2 (fun d8 => .alu (aluOf (field3 b 3)) (.imm d8))
  else if group b = 3 ∧ field3 b 0 = 7 then .b1 (.rst (field3 b 3).toFin)
  else if group b = 3 ∧ field3 b 0 = 0 then .b1 (.rcc (condOf (field3 b 3)))
  else if group b = 3 ∧ field3 b 0 = 2 then
    .b3cond (condOf (field3 b 3)) (fun addr16 => .jcc (condOf (field3 b 3)) addr16)
  else if group b = 3 ∧ field3 b 0 = 4 then
    .b3cond (condOf (field3 b 3)) (fun addr16 => .ccc (condOf (field3 b 3)) addr16)
  else if b = 0xC1 then .b1 (.pop .bc)
  else if b = 0xD1 then .b1 (.pop .de)
  else if b = 0xE1 then .b1 (.pop .hl)
  else if b = 0xF1 then .b1 .popPsw
  else if b = 0xC5 then .b1 (.push .bc)
  else if b = 0xD5 then .b1 (.push .de)
  else if b = 0xE5 then .b1 (.push .hl)
  else if b = 0xF5 then .b1 .pushPsw
  else if b = 0xC3 then .b3 .jmp
  else if b = 0xCD then .b3 .call
  else if b = 0xC9 then .b1 .ret
  else if b = 0xE9 then .b1 .pchl
  else if b = 0xF9 then .b1 .sphl
  else if b = 0xE3 then .b1 .xthl
  else if b = 0xEB then .b1 .xchg
  else if b = 0xD3 then .b2 .outPort
  else if b = 0xDB then .b2 .inPort
  else if b = 0xF3 then .b1 .di
  else if b = 0xFB then .b1 .ei
  else .none b

/-- Why bytes are not an instruction: too few of them. (A byte that spells no instruction decodes to `undefined`.) -/
inductive DecodeError where
  | noOpcode
  | missingByte2
  | missingByte3
deriving DecidableEq, Repr

/-- The instruction at the head of the bytes and the bytes after it. The second byte is the low byte of a word, the third
the high byte (30_encoding.md R95). -/
def decode : List Byte → Except DecodeError (Instr × List Byte)
  | [] => .error .noOpcode
  | op :: rest =>
    match decodeOpcode op, rest with
    | .b1 f, _ => .ok (f.instr, rest)
    | .b2 f, byte2 :: rest => .ok ((f byte2).instr, rest)
    | .b3 f, byte2 :: byte3 :: rest => .ok ((f (join byte3 byte2)).instr, rest)
    | .b3cond _ f, byte2 :: byte3 :: rest => .ok ((f (join byte3 byte2)).instr, rest)
    | .none opcode, _ => .ok (.undefined opcode, rest)
    | .b2 _, [] => .error .missingByte2
    | .b3 _, [] => .error .missingByte2
    | .b3cond _ _, [] => .error .missingByte2
    | .b3 _, [_] => .error .missingByte3
    | .b3cond _ _, [_] => .error .missingByte3

/-- The bytes of an instruction, first byte first: the opcode from the map of 30_encoding.md R98, the operand bytes low
byte first (R95). -/
def encode : Instr → List Byte
  | .movBB => [0x40]
  | .movBC => [0x41]
  | .movBD => [0x42]
  | .movBE => [0x43]
  | .movBH => [0x44]
  | .movBL => [0x45]
  | .movBA => [0x47]
  | .movCB => [0x48]
  | .movCC => [0x49]
  | .movCD => [0x4A]
  | .movCE => [0x4B]
  | .movCH => [0x4C]
  | .movCL => [0x4D]
  | .movCA => [0x4F]
  | .movDB => [0x50]
  | .movDC => [0x51]
  | .movDD => [0x52]
  | .movDE => [0x53]
  | .movDH => [0x54]
  | .movDL => [0x55]
  | .movDA => [0x57]
  | .movEB => [0x58]
  | .movEC => [0x59]
  | .movED => [0x5A]
  | .movEE => [0x5B]
  | .movEH => [0x5C]
  | .movEL => [0x5D]
  | .movEA => [0x5F]
  | .movHB => [0x60]
  | .movHC => [0x61]
  | .movHD => [0x62]
  | .movHE => [0x63]
  | .movHH => [0x64]
  | .movHL => [0x65]
  | .movHA => [0x67]
  | .movLB => [0x68]
  | .movLC => [0x69]
  | .movLD => [0x6A]
  | .movLE => [0x6B]
  | .movLH => [0x6C]
  | .movLL => [0x6D]
  | .movLA => [0x6F]
  | .movAB => [0x78]
  | .movAC => [0x79]
  | .movAD => [0x7A]
  | .movAE => [0x7B]
  | .movAH => [0x7C]
  | .movAL => [0x7D]
  | .movAA => [0x7F]
  | .movBM => [0x46]
  | .movCM => [0x4E]
  | .movDM => [0x56]
  | .movEM => [0x5E]
  | .movHM => [0x66]
  | .movLM => [0x6E]
  | .movAM => [0x7E]
  | .movMB => [0x70]
  | .movMC => [0x71]
  | .movMD => [0x72]
  | .movME => [0x73]
  | .movMH => [0x74]
  | .movML => [0x75]
  | .movMA => [0x77]
  | .mviB d8 => [0x06, d8]
  | .mviC d8 => [0x0E, d8]
  | .mviD d8 => [0x16, d8]
  | .mviE d8 => [0x1E, d8]
  | .mviH d8 => [0x26, d8]
  | .mviL d8 => [0x2E, d8]
  | .mviA d8 => [0x3E, d8]
  | .mviM d8 => [0x36, d8]
  | .lda addr16 => [0x3A, lo addr16, hi addr16]
  | .ldaxB => [0x0A]
  | .ldaxD => [0x1A]
  | .lxiB d16 => [0x01, lo d16, hi d16]
  | .lxiD d16 => [0x11, lo d16, hi d16]
  | .lxiH d16 => [0x21, lo d16, hi d16]
  | .lxiSP d16 => [0x31, lo d16, hi d16]
  | .lhld addr16 => [0x2A, lo addr16, hi addr16]
  | .sta addr16 => [0x32, lo addr16, hi addr16]
  | .staxB => [0x02]
  | .staxD => [0x12]
  | .shld addr16 => [0x22, lo addr16, hi addr16]
  | .sphl => [0xF9]
  | .xchg => [0xEB]
  | .xthl => [0xE3]
  | .pushB => [0xC5]
  | .pushD => [0xD5]
  | .pushH => [0xE5]
  | .pushPSW => [0xF5]
  | .popB => [0xC1]
  | .popD => [0xD1]
  | .popH => [0xE1]
  | .popPSW => [0xF1]
  | .outPort port8 => [0xD3, port8]
  | .inPort port8 => [0xDB, port8]
  | .addB => [0x80]
  | .addC => [0x81]
  | .addD => [0x82]
  | .addE => [0x83]
  | .addH => [0x84]
  | .addL => [0x85]
  | .addA => [0x87]
  | .addM => [0x86]
  | .adi d8 => [0xC6, d8]
  | .adcB => [0x88]
  | .adcC => [0x89]
  | .adcD => [0x8A]
  | .adcE => [0x8B]
  | .adcH => [0x8C]
  | .adcL => [0x8D]
  | .adcA => [0x8F]
  | .adcM => [0x8E]
  | .aci d8 => [0xCE, d8]
  | .daa => [0x27]
  | .dadB => [0x09]
  | .dadD => [0x19]
  | .dadH => [0x29]
  | .dadSP => [0x39]
  | .subB => [0x90]
  | .subC => [0x91]
  | .subD => [0x92]
  | .subE => [0x93]
  | .subH => [0x94]
  | .subL => [0x95]
  | .subA => [0x97]
  | .subM => [0x96]
  | .sui d8 => [0xD6, d8]
  | .sbbB => [0x98]
  | .sbbC => [0x99]
  | .sbbD => [0x9A]
  | .sbbE => [0x9B]
  | .sbbH => [0x9C]
  | .sbbL => [0x9D]
  | .sbbA => [0x9F]
  | .sbbM => [0x9E]
  | .sbi d8 => [0xDE, d8]
  | .inrB => [0x04]
  | .inrC => [0x0C]
  | .inrD => [0x14]
  | .inrE => [0x1C]
  | .inrH => [0x24]
  | .inrL => [0x2C]
  | .inrA => [0x3C]
  | .inrM => [0x34]
  | .inxB => [0x03]
  | .inxD => [0x13]
  | .inxH => [0x23]
  | .inxSP => [0x33]
  | .dcrB => [0x05]
  | .dcrC => [0x0D]
  | .dcrD => [0x15]
  | .dcrE => [0x1D]
  | .dcrH => [0x25]
  | .dcrL => [0x2D]
  | .dcrA => [0x3D]
  | .dcrM => [0x35]
  | .dcxB => [0x0B]
  | .dcxD => [0x1B]
  | .dcxH => [0x2B]
  | .dcxSP => [0x3B]
  | .anaB => [0xA0]
  | .anaC => [0xA1]
  | .anaD => [0xA2]
  | .anaE => [0xA3]
  | .anaH => [0xA4]
  | .anaL => [0xA5]
  | .anaA => [0xA7]
  | .anaM => [0xA6]
  | .ani d8 => [0xE6, d8]
  | .oraB => [0xB0]
  | .oraC => [0xB1]
  | .oraD => [0xB2]
  | .oraE => [0xB3]
  | .oraH => [0xB4]
  | .oraL => [0xB5]
  | .oraA => [0xB7]
  | .oraM => [0xB6]
  | .ori d8 => [0xF6, d8]
  | .xraB => [0xA8]
  | .xraC => [0xA9]
  | .xraD => [0xAA]
  | .xraE => [0xAB]
  | .xraH => [0xAC]
  | .xraL => [0xAD]
  | .xraA => [0xAF]
  | .xraM => [0xAE]
  | .xri d8 => [0xEE, d8]
  | .cmpB => [0xB8]
  | .cmpC => [0xB9]
  | .cmpD => [0xBA]
  | .cmpE => [0xBB]
  | .cmpH => [0xBC]
  | .cmpL => [0xBD]
  | .cmpA => [0xBF]
  | .cmpM => [0xBE]
  | .cpi d8 => [0xFE, d8]
  | .cma => [0x2F]
  | .cmc => [0x3F]
  | .stc => [0x37]
  | .rlc => [0x07]
  | .ral => [0x17]
  | .rrc => [0x0F]
  | .rar => [0x1F]
  | .jmp addr16 => [0xC3, lo addr16, hi addr16]
  | .jnz addr16 => [0xC2, lo addr16, hi addr16]
  | .jz addr16 => [0xCA, lo addr16, hi addr16]
  | .jnc addr16 => [0xD2, lo addr16, hi addr16]
  | .jc addr16 => [0xDA, lo addr16, hi addr16]
  | .jpo addr16 => [0xE2, lo addr16, hi addr16]
  | .jpe addr16 => [0xEA, lo addr16, hi addr16]
  | .jp addr16 => [0xF2, lo addr16, hi addr16]
  | .jm addr16 => [0xFA, lo addr16, hi addr16]
  | .call addr16 => [0xCD, lo addr16, hi addr16]
  | .cnz addr16 => [0xC4, lo addr16, hi addr16]
  | .cz addr16 => [0xCC, lo addr16, hi addr16]
  | .cnc addr16 => [0xD4, lo addr16, hi addr16]
  | .cc addr16 => [0xDC, lo addr16, hi addr16]
  | .cpo addr16 => [0xE4, lo addr16, hi addr16]
  | .cpe addr16 => [0xEC, lo addr16, hi addr16]
  | .cp addr16 => [0xF4, lo addr16, hi addr16]
  | .cm addr16 => [0xFC, lo addr16, hi addr16]
  | .ret => [0xC9]
  | .rnz => [0xC0]
  | .rz => [0xC8]
  | .rnc => [0xD0]
  | .rc => [0xD8]
  | .rpo => [0xE0]
  | .rpe => [0xE8]
  | .rp => [0xF0]
  | .rm => [0xF8]
  | .rst0 => [0xC7]
  | .rst1 => [0xCF]
  | .rst2 => [0xD7]
  | .rst3 => [0xDF]
  | .rst4 => [0xE7]
  | .rst5 => [0xEF]
  | .rst6 => [0xF7]
  | .rst7 => [0xFF]
  | .pchl => [0xE9]
  | .di => [0xF3]
  | .ei => [0xFB]
  | .sim => [0x30]
  | .rim => [0x20]
  | .hlt => [0x76]
  | .nop => [0x00]
  | .undefined opcode => [opcode]

/-- The instruction the decoder reads from the bits `w` of a row of spec/opcode_table.json, bit 0 the least significant
bit of the first byte; bits from `nbits` up are 0. -/
def decodeTableWord (nbits w : Nat) : Option Instr :=
  let v := w % 2 ^ nbits
  match decode [BitVec.ofNat 8 v, BitVec.ofNat 8 (v / 2 ^ 8), BitVec.ofNat 8 (v / 2 ^ 16)] with
  | .ok (i, _) => some i
  | .error _ => none

end Sys2Proof
end

