-- ==== Sys2Proof/Machine/Fetch.lean ====
section
/-! DEFINITION. Fetching an instruction's bytes, and placing an instruction where it is fetched. -/

namespace Sys2Proof.Machine
open Sys2Proof

/-- The instruction at PC, read byte by byte at ascending addresses modulo 2^16 (30_encoding.md R90, 20_memory.md R63,
D17). Of a conditional jump or call whose condition is false the third byte is not read (D14): its address operand, which
has no effect then, is handed on with a high byte of 0. -/
def fetch (s : State) (k : Instr → State → Result) : Result :=
  load s s.pc fun op s1 =>
    match decodeOpcode op with
    | .none opcode => k (.undefined opcode) s1
    | .b1 f => k f.instr s1
    | .b2 f => load s1 (s1.pc + 1) fun byte2 s2 => k (f byte2).instr s2
    | .b3 f =>
      load s1 (s1.pc + 1) fun byte2 s2 =>
        load s2 (s2.pc + 2) fun byte3 s3 => k (f (join byte3 byte2)).instr s3
    | .b3cond cc f =>
      load s1 (s1.pc + 1) fun byte2 s2 =>
        if s2.flags.holds cc then
          load s2 (s2.pc + 2) fun byte3 s3 => k (f (join byte3 byte2)).instr s3
        else k (f (join 0 byte2)).instr s2

/-- A byte placed in memory from outside the machine; an address that is a device or absent becomes RAM. -/
def State.plant (s : State) (a : Word) (v : Byte) : State :=
  { s with
    mem := s.mem.write a.toNat v
    memMap :=
      match s.kindAt a with
      | .ram => s.memMap
      | .rom => s.memMap
      | .device => { first := a.toNat, last := a.toNat, kind := .ram } :: s.memMap
      | .absent => { first := a.toNat, last := a.toNat, kind := .ram } :: s.memMap }

end Sys2Proof.Machine
end

