-- ==== Sys2Proof/Machine/Step.lean ====
section
/-! DEFINITION. One turn of the step loop, and an instruction placed where the next step fetches it. -/

namespace Sys2Proof.Machine
open Sys2Proof

/-- One turn of the loop of 60_exceptions.md R285: a reset, an interrupt entry, a halted turn, or one instruction. -/
def step (s : State) : Host.Outcome State Fault Refusal :=
  if s.event.reset then .next s.eventTaken.resetEvent
  else
    match s.request with
    | some (.vectored src) => enter src s.sampled
    | some .intr => acknowledgeIntr s.event s.sampled
    | none => if s.ctl.halted then .next s.sampled else fetch s.sampled exec

/-- The state with the instruction of bits `w` (bits from `nbits` up are 0) at PC, in three bytes, the first the lowest
(30_encoding.md R90). Where the coming step would not fetch (an event, a latched request, the halt), what keeps it from
fetching is taken away (log 18). -/
def State.withFetchWord (s : State) (nbits w : Nat) : State :=
  let v := w % 2 ^ nbits
  let ready :=
    if s.fetches then s
    else { s with irq := [], ctl := { s.ctl with halted := false, l75 := false } }
  ((ready.plant s.pc (BitVec.ofNat 8 v)).plant (s.pc + 1) (BitVec.ofNat 8 (v / 2 ^ 8))).plant
    (s.pc + 2) (BitVec.ofNat 8 (v / 2 ^ 16))

end Sys2Proof.Machine
end

