-- ==== Sys2Proof/Machine/Timing.lean ====
section
/-! DEFINITION. The machine cycles and T-states of each instruction form (70_reset_and_hazards.md R334, R335, 30_encoding.md
R103). They have no architectural effect (decision D12): no step reads them (log 20). -/

namespace Sys2Proof.Machine
open Sys2Proof

/-- The machine-cycle letters (70_reset_and_hazards.md R335). -/
inductive Cycle where
  /-- F: opcode fetch of 4 T-states. -/
  | fetch4
  /-- S: opcode fetch of 6 T-states. -/
  | fetch6
  /-- R: memory read. -/
  | read
  /-- W: memory write. -/
  | write
  /-- I: IO read. -/
  | ioRead
  /-- O: IO write. -/
  | ioWrite
  /-- B: bus idle. -/
  | idle
deriving DecidableEq, Repr

/-- The T-states of a machine cycle in an instruction of that form (R335). HLT alone has a fetch of 3 and an idle cycle of 2
(R335 on the letter B, R334, 90_conflicts.md C2); the idle cycles of DAD have 3. -/
def Cycle.states : Form → Cycle → Nat
  | .hlt, .fetch4 => 3
  | .hlt, .idle => 2
  | _, .fetch4 => 4
  | _, .fetch6 => 6
  | _, .read => 3
  | _, .write => 3
  | _, .ioRead => 3
  | _, .ioWrite => 3
  | _, .idle => 3

/-- The machine cycles of an 8-bit operation on A, by its second operand (R103 rows 22 to 53). -/
def operandCycles : Operand → List Cycle
  | .reg _ => [.fetch4]
  | .mem => [.fetch4, .read]
  | .imm _ => [.fetch4, .read]

/-- The machine cycles of a form, in order; `taken` says whether its condition holds (R103). -/
def cycles (f : Form) (taken : Bool) : List Cycle :=
  match f with
  | .mov _ _ => [.fetch4]
  | .movFromM _ => [.fetch4, .read]
  | .movToM _ => [.fetch4, .write]
  | .mvi (.reg _) _ => [.fetch4, .read]
  | .mvi .mem _ => [.fetch4, .read, .write]
  | .lda _ => [.fetch4, .read, .read, .read]
  | .ldax _ => [.fetch4, .read]
  | .lxi _ _ => [.fetch4, .read, .read]
  | .lhld _ => [.fetch4, .read, .read, .read, .read]
  | .sta _ => [.fetch4, .read, .read, .write]
  | .stax _ => [.fetch4, .write]
  | .shld _ => [.fetch4, .read, .read, .write, .write]
  | .sphl => [.fetch6]
  | .xchg => [.fetch4]
  | .xthl => [.fetch4, .read, .read, .write, .write]
  | .push _ => [.fetch6, .write, .write]
  | .pushPsw => [.fetch6, .write, .write]
  | .pop _ => [.fetch4, .read, .read]
  | .popPsw => [.fetch4, .read, .read]
  | .outPort _ => [.fetch4, .read, .ioWrite]
  | .inPort _ => [.fetch4, .read, .ioRead]
  | .alu _ x => operandCycles x
  | .daa => [.fetch4]
  | .dad _ => [.fetch4, .idle, .idle]
  | .inr (.reg _) => [.fetch4]
  | .inr .mem => [.fetch4, .read, .write]
  | .inx _ => [.fetch6]
  | .dcr (.reg _) => [.fetch4]
  | .dcr .mem => [.fetch4, .read, .write]
  | .dcx _ => [.fetch6]
  | .cma => [.fetch4]
  | .cmc => [.fetch4]
  | .stc => [.fetch4]
  | .rlc => [.fetch4]
  | .ral => [.fetch4]
  | .rrc => [.fetch4]
  | .rar => [.fetch4]
  | .jmp _ => [.fetch4, .read, .read]
  | .jcc _ _ => if taken then [.fetch4, .read, .read] else [.fetch4, .read]
  | .call _ => [.fetch6, .read, .read, .write, .write]
  | .ccc _ _ => if taken then [.fetch6, .read, .read, .write, .write] else [.fetch6, .read]
  | .ret => [.fetch4, .read, .read]
  | .rcc _ => if taken then [.fetch6, .read, .read] else [.fetch6]
  | .rst _ => [.fetch6, .write, .write]
  | .pchl => [.fetch6]
  | .di => [.fetch4]
  | .ei => [.fetch4]
  | .sim => [.fetch4]
  | .rim => [.fetch4]
  | .hlt => [.fetch4, .idle]
  | .nop => [.fetch4]
  | .undefined _ => []

/-- The T-states of a form, from the table of R334; an undefined byte has none. -/
def tStates (f : Form) (taken : Bool) : Nat :=
  match f with
  | .mov _ _ | .xchg | .di | .ei | .alu _ (.reg _) | .inr (.reg _) | .dcr (.reg _) | .daa | .cma | .cmc | .stc => 4
  | .rlc | .rrc | .ral | .rar | .rim | .sim | .nop => 4
  | .hlt => 5
  | .sphl | .inx _ | .dcx _ | .pchl => 6
  | .movFromM _ | .movToM _ | .mvi (.reg _) _ | .ldax _ | .stax _ | .alu _ .mem | .alu _ (.imm _) => 7
  | .mvi .mem _ | .inr .mem | .dcr .mem => 10
  | .lxi _ _ | .pop _ | .popPsw | .jmp _ | .ret | .inPort _ | .outPort _ | .dad _ => 10
  | .push _ | .pushPsw | .rst _ => 12
  | .lda _ | .sta _ => 13
  | .lhld _ | .shld _ | .xthl => 16
  | .call _ => 18
  | .jcc _ _ => if taken then 10 else 7
  | .ccc _ _ => if taken then 18 else 9
  | .rcc _ => if taken then 12 else 6
  | .undefined _ => 0

end Sys2Proof.Machine
end

