-- ==== Sys2Proof/Safety.lean ====
section
/-! DEFINITION. The terms of the statements: what a step may change, the tables of the spec that speak of all instructions
at once (10_state.md R21, R28, R29, 60_exceptions.md R282, R284), and the invariant. No step reads anything of this file. -/

namespace Sys2Proof.Machine
open Sys2Proof

/-! ## Codes -/

/-- The code of a register (10_state.md R21). -/
def codeOf : Reg → Byte
  | .b => 0
  | .c => 1
  | .d => 2
  | .e => 3
  | .h => 4
  | .l => 5
  | .a => 7

/-- The code of a register or M (30_encoding.md R92). -/
def locCode : Loc → Byte
  | .reg r => codeOf r
  | .mem => 6

/-- The code of a pair (10_state.md R22). -/
def pairCode : Pair → Byte
  | .bc => 0
  | .de => 1
  | .hl => 2
  | .sp => 3

/-- The code of a condition (30_encoding.md R94). -/
def condCode : Cond → Byte
  | .nz => 0
  | .z => 1
  | .nc => 2
  | .c => 3
  | .po => 4
  | .pe => 5
  | .p => 6
  | .m => 7

/-- The code of an operation (30_encoding.md R91). -/
def aluCode : AluOp → Byte
  | .add => 0
  | .adc => 1
  | .sub => 2
  | .sbb => 3
  | .ana => 4
  | .xra => 5
  | .ora => 6
  | .cmp => 7

/-- The bytes of an 8-bit operation on A: `10 ALU SSS`, or `11 ALU 110` and the data byte (30_encoding.md R97). -/
def aluBytes (op : AluOp) : Operand → List Byte
  | .reg r => [0x80 + 8 * aluCode op + codeOf r]
  | .mem => [0x80 + 8 * aluCode op + 6]
  | .imm d8 => [0xC6 + 8 * aluCode op, d8]

/-- The machine cycles and T-states of a form, whatever its condition (70_reset_and_hazards.md R334). -/
def Costs (f : Form) (cs : List Cycle) (n : Nat) : Prop := ∀ taken, cycles f taken = cs ∧ tStates f taken = n

/-! ## What memory keeps -/

/-- Every byte of memory reads as before. -/
def KeepsMemory (s t : State) : Prop := ∀ a, t.byteAt a = s.byteAt a

/-- The outputs one write makes: one if the address is a device's (20_memory.md R74, D4). -/
def State.outputsOf (s : State) (a : Word) (v : Byte) : List OutEvent :=
  if s.kindAt a = .device then [.device a v] else []

/-- Between `s` and `t`, `v` was written to `a` and nothing else was written: RAM holds `v`, any other kind of address keeps
its byte, every other address reads as before, and a device's write is an output. -/
def Stored (s t : State) (a : Word) (v : Byte) : Prop :=
  (s.kindAt a = .ram → t.byteAt a = v) ∧
  (s.kindAt a ≠ .ram → t.byteAt a = s.byteAt a) ∧
  (∀ b, b ≠ a → t.byteAt b = s.byteAt b) ∧
  t.trace = s.trace ++ s.outputsOf a v

/-- Between `s` and `t`, `v` was written to `a`, then `w` to `b`, and nothing else was written. -/
def StoredTwo (s t : State) (a : Word) (v : Byte) (b : Word) (w : Byte) : Prop :=
  (s.kindAt a = .ram → t.byteAt a = v) ∧
  (s.kindAt a ≠ .ram → t.byteAt a = s.byteAt a) ∧
  (s.kindAt b = .ram → t.byteAt b = w) ∧
  (s.kindAt b ≠ .ram → t.byteAt b = s.byteAt b) ∧
  (∀ c, c ≠ a → c ≠ b → t.byteAt c = s.byteAt c) ∧
  t.trace = s.trace ++ s.outputsOf a v ++ s.outputsOf b w

/-- Both bytes a push stores to have something behind them. -/
def State.canPush (s : State) : Prop := s.present (s.sp - 1) = true ∧ s.present (s.sp - 2) = true

/-- Both bytes a pop reads have something behind them. -/
def State.canPop (s : State) : Prop := s.present s.sp = true ∧ s.present (s.sp + 1) = true

/-- Between `s` and `t` the word was pushed: SP down by two, the high byte at the old SP - 1 and the low byte at the old
SP - 2, nothing else written (20_memory.md R61). -/
def Pushed (s t : State) (w : Word) : Prop :=
  t.sp = s.sp - 2 ∧ StoredTwo s t (s.sp - 1) (hi w) (s.sp - 2) (lo w)

/-- The byte at SP, which a pop reads first. -/
def State.topLow (s : State) : Byte := s.readByte s.sp

/-- The byte at SP + 1, read after the byte at SP. -/
def State.topHigh (s : State) : Byte := (s.afterRead s.sp).readByte (s.sp + 1)

/-- The state after the reads at SP and SP + 1. -/
def State.afterTopRead (s : State) : State := (s.afterRead s.sp).afterRead (s.sp + 1)

/-! ## Operands of the 8-bit operations -/

/-- The operand can be read: M needs something behind HL. -/
def operandPresent (s : State) : Operand → Prop
  | .reg _ => True
  | .mem => s.present s.hl = true
  | .imm _ => True

/-- The operand's value. -/
def operandValue (s : State) : Operand → Byte
  | .reg r => s.reg r
  | .mem => s.readByte s.hl
  | .imm d8 => d8

/-- The state after the operand is read. -/
def operandRead (s : State) : Operand → State
  | .reg _ => s
  | .mem => s.afterRead s.hl
  | .imm _ => s

/-- The bytes of an 8-bit operation with that operand (30_encoding.md R96). -/
def operandBytes : Operand → Word
  | .reg _ => 1
  | .mem => 1
  | .imm _ => 2

/-- The T-states of an 8-bit operation with that operand (70_reset_and_hazards.md R334). -/
def operandStates : Operand → Nat
  | .reg _ => 4
  | .mem => 7
  | .imm _ => 7

/-- The number of 1 bits of a byte. -/
def ones (v : Byte) : Nat := (List.range 8).countP fun i => v.getLsbD i

/-- ZF, SF and PF are those of the byte: zero, bit 7, an even number of ones (00_scope.md R8). -/
def ZSPOf (f : Flags) (v : Byte) : Prop :=
  f.zf = decide (v.toNat = 0) ∧ f.sf = decide (128 ≤ v.toNat) ∧ f.pf = decide (ones v % 2 = 0)

/-! ## Flags: who writes and who reads them -/

/-- What an instruction does to a flag (the legend of 10_state.md R28). -/
inductive FlagEffect where
  | kept
  | affected
  | zero
  | one
deriving DecidableEq, Repr

/-- The table of 10_state.md R28. -/
def flagEffect : Form → Flag → FlagEffect
  | .alu .ana _, .cf => .zero
  | .alu .ana _, .af => .one
  | .alu .xra _, .cf => .zero
  | .alu .xra _, .af => .zero
  | .alu .ora _, .cf => .zero
  | .alu .ora _, .af => .zero
  | .alu _ _, _ => .affected
  | .daa, _ => .affected
  | .popPsw, _ => .affected
  | .inr _, .cf => .kept
  | .inr _, _ => .affected
  | .dcr _, .cf => .kept
  | .dcr _, _ => .affected
  | .stc, .cf => .one
  | .cmc, .cf => .affected
  | .dad _, .cf => .affected
  | .rlc, .cf => .affected
  | .ral, .cf => .affected
  | .rrc, .cf => .affected
  | .rar, .cf => .affected
  | _, _ => .kept

/-- The flag a condition tests (44_branch.md R230). -/
def condFlag : Cond → Flag
  | .nz => .zf
  | .z => .zf
  | .nc => .cf
  | .c => .cf
  | .po => .pf
  | .pe => .pf
  | .p => .sf
  | .m => .sf

/-- The value of its flag for which a condition holds (44_branch.md R230). -/
def condSense : Cond → Bool
  | .nz => false
  | .z => true
  | .nc => false
  | .c => true
  | .po => false
  | .pe => true
  | .p => false
  | .m => true

/-- The table of 10_state.md R29. -/
def readsFlag : Form → Flag → Bool
  | .alu .adc _, .cf => true
  | .alu .sbb _, .cf => true
  | .ral, .cf => true
  | .rar, .cf => true
  | .cmc, .cf => true
  | .daa, .cf => true
  | .daa, .af => true
  | .jcc cc _, f => f == condFlag cc
  | .ccc cc _, f => f == condFlag cc
  | .rcc cc, f => f == condFlag cc
  | .pushPsw, _ => true
  | _, _ => false

/-- The flag of that name. -/
def Flags.get (f : Flags) : Flag → Bool
  | .cf => f.cf
  | .af => f.af
  | .zf => f.zf
  | .sf => f.sf
  | .pf => f.pf

/-- The flag of that name set to a value. -/
def Flags.set (f : Flags) (x : Flag) (b : Bool) : Flags :=
  match x with
  | .cf => { f with cf := b }
  | .af => { f with af := b }
  | .zf => { f with zf := b }
  | .sf => { f with sf := b }
  | .pf => { f with pf := b }

/-! ## Interrupts -/

/-- The five tests of 60_exceptions.md R282. -/
def canAccept (s : State) : Request → Prop
  | .vectored .trap => s.event.trap = true
  | .vectored .rst75 =>
    (s.ctl.l75 = true ∨ s.event.edge75 = true) ∧ s.ctl.m75 = false ∧ s.ctl.ie = true ∧ s.ctl.eiPending = false
  | .vectored .rst65 =>
    s.event.line65 = true ∧ s.ctl.m65 = false ∧ s.ctl.ie = true ∧ s.ctl.eiPending = false
  | .vectored .rst55 =>
    s.event.line55 = true ∧ s.ctl.m55 = false ∧ s.ctl.ie = true ∧ s.ctl.eiPending = false
  | .intr => s.event.intr = true ∧ s.ctl.ie = true ∧ s.ctl.eiPending = false

/-- The priority of 60_exceptions.md R284, the highest first. -/
def priority : Request → Nat
  | .vectored .trap => 0
  | .vectored .rst75 => 1
  | .vectored .rst65 => 2
  | .vectored .rst55 => 3
  | .intr => 4

/-! ## Reading an instruction's bytes -/

/-- The bytes read in turn from `n` addresses that start at `a`, and the state after the reads. -/
def State.readRun (s : State) (a : Word) : Nat → List Byte × State
  | 0 => ([], s)
  | n + 1 =>
    let r := (s.afterRead a).readRun (a + 1) n
    (s.readByte a :: r.1, r.2)

/-- All of `n` addresses that start at `a` have something behind them. -/
def State.presentRun (s : State) (a : Word) : Nat → Prop
  | 0 => True
  | n + 1 => s.present a = true ∧ s.presentRun (a + 1) n

/-- A conditional jump or call whose condition is false: its third byte is not read (20_memory.md R63, D14). -/
def skipsByte3 (f : Flags) : Form → Bool
  | .jcc cc _ => f.get (condFlag cc) != condSense cc
  | .ccc cc _ => f.get (condFlag cc) != condSense cc
  | _ => false

/-! ## The invariant and a safe run -/

/-- What every step keeps: memory in its canonical form, EI_PENDING only while IE is set (45_machine_control.md R260,
R261), and a halted machine with no EI_PENDING (R264). -/
def State.Inv (s : State) : Prop :=
  s.mem.wf = true ∧ (s.ctl.eiPending = true → s.ctl.ie = true) ∧ (s.ctl.halted = true → s.ctl.eiPending = false)

/-- A safe run of `n` steps: no refusal. (A fault does not exist, 60_exceptions.md R280.) -/
def SafeRun (n : Nat) (s : State) : Prop := ∃ t, Sys2Proof.core.run n s = .next t

/-- A packed decimal byte: both nibbles at most 9 (42_arithmetic.md R166). -/
def IsBcd (v : Byte) : Prop := v.toNat % 16 ≤ 9 ∧ v.toNat / 16 ≤ 9

/-- The number a packed decimal byte stands for. -/
def bcdValue (v : Byte) : Nat := 10 * (v.toNat / 16) + v.toNat % 16

end Sys2Proof.Machine
end

