-- ==== Sys2Proof/Certificates/Slice0/Obligations.lean ====
section
/-! DEFINITION. The statements. `Form.instr` turns a form with its operands into the constructor of `Instr` it stands for, so
a statement about `(Form.mov dst src).instr` is about all 49 constructors movBB to movAA. Where a state is given as
`{ s with … }`, everything not named there is as in `s`. -/

open Sys2Proof Sys2Proof.Machine

/-! ## Group I, data transfer -/

/-- R120, for the 49 constructors movBB to movAA. -/
def Obligations.MovCopiesRegister : Prop :=
  ∀ (dst src : Reg) (s : State),
    encode (Form.mov dst src).instr = [0x40 + 8 * codeOf dst + codeOf src] ∧
    Costs (.mov dst src) [.fetch4] 4 ∧
    ∃ t, exec (Form.mov dst src).instr s = .next t ∧
      (∀ r, t.reg r = if r = dst then s.reg src else s.reg r) ∧
      KeepsMemory s t ∧
      t = { s with regs := t.regs, pc := s.pc + 1 }

/-- R121 and R122, for movBM, movCM, movDM, movEM, movHM, movLM, movAM and movMB, movMC, movMD, movME, movMH, movML, movMA. -/
def Obligations.MovMovesAByteAtHL : Prop :=
  ∀ (r : Reg) (s : State),
    encode (Form.movFromM r).instr = [0x46 + 8 * codeOf r] ∧
    Costs (.movFromM r) [.fetch4, .read] 7 ∧
    encode (Form.movToM r).instr = [0x70 + codeOf r] ∧
    Costs (.movToM r) [.fetch4, .write] 7 ∧
    (s.present s.hl = true →
      (∃ t, exec (Form.movFromM r).instr s = .next t ∧
        (∀ q, t.reg q = if q = r then s.readByte s.hl else s.reg q) ∧
        KeepsMemory s t ∧
        t = { s.afterRead s.hl with regs := t.regs, pc := s.pc + 1 }) ∧
      ∃ t, exec (Form.movToM r).instr s = .next t ∧
        Stored s t s.hl (s.reg r) ∧
        t = { s with mem := t.mem, trace := t.trace, pc := s.pc + 1 })

/-- R123 and R124, for mviB, mviC, mviD, mviE, mviH, mviL, mviA and mviM. -/
def Obligations.MviLoadsTheInstructionByte : Prop :=
  ∀ (d8 : Byte) (s : State),
    (∀ r,
      encode (Form.mvi (.reg r) d8).instr = [0x06 + 8 * codeOf r, d8] ∧
      Costs (.mvi (.reg r) d8) [.fetch4, .read] 7 ∧
      ∃ t, exec (Form.mvi (.reg r) d8).instr s = .next t ∧
        (∀ q, t.reg q = if q = r then d8 else s.reg q) ∧
        KeepsMemory s t ∧
        t = { s with regs := t.regs, pc := s.pc + 2 }) ∧
    encode (Form.mvi .mem d8).instr = [0x36, d8] ∧
    Costs (.mvi .mem d8) [.fetch4, .read, .write] 10 ∧
    (s.present s.hl = true →
      ∃ t, exec (Form.mvi .mem d8).instr s = .next t ∧
        Stored s t s.hl d8 ∧
        t = { s with mem := t.mem, trace := t.trace, pc := s.pc + 2 })

/-- R125 and R126, for lda, ldaxB and ldaxD. -/
def Obligations.LdaAndLdaxLoadTheAccumulator : Prop :=
  ∀ s : State,
    (∀ addr16,
      encode (Form.lda addr16).instr = [0x3A, lo addr16, hi addr16] ∧
      Costs (.lda addr16) [.fetch4, .read, .read, .read] 13 ∧
      (s.present addr16 = true →
        ∃ t, exec (Form.lda addr16).instr s = .next t ∧
          (∀ r, t.reg r = if r = .a then s.readByte addr16 else s.reg r) ∧
          KeepsMemory s t ∧
          t = { s.afterRead addr16 with regs := t.regs, pc := s.pc + 3 })) ∧
    (∀ p,
      encode (Form.ldax p).instr = [0x0A + 16 * pairCode (pairOfIndex p)] ∧
      Costs (.ldax p) [.fetch4, .read] 7 ∧
      (s.present (s.pair (pairOfIndex p)) = true →
        ∃ t, exec (Form.ldax p).instr s = .next t ∧
          (∀ r, t.reg r = if r = .a then s.readByte (s.pair (pairOfIndex p)) else s.reg r) ∧
          KeepsMemory s t ∧
          t = { s.afterRead (s.pair (pairOfIndex p)) with regs := t.regs, pc := s.pc + 1 }))

/-- R127, for lxiB, lxiD, lxiH and lxiSP. A and the four pairs are all the registers there are. -/
def Obligations.LxiLoadsThePair : Prop :=
  ∀ (p : Pair) (d16 : Word) (s : State),
    encode (Form.lxi p d16).instr = [0x01 + 16 * pairCode p, lo d16, hi d16] ∧
    Costs (.lxi p d16) [.fetch4, .read, .read] 10 ∧
    ∃ t, exec (Form.lxi p d16).instr s = .next t ∧
      (∀ q, t.pair q = if q = p then d16 else s.pair q) ∧
      t.reg .a = s.reg .a ∧
      KeepsMemory s t ∧
      t = { s with regs := t.regs, sp := t.sp, pc := s.pc + 3 }

/-- R128, for lhld. -/
def Obligations.LhldLoadsLThenH : Prop :=
  ∀ (addr16 : Word) (s : State),
    encode (Form.lhld addr16).instr = [0x2A, lo addr16, hi addr16] ∧
    Costs (.lhld addr16) [.fetch4, .read, .read, .read, .read] 16 ∧
    (s.present addr16 = true → s.present (addr16 + 1) = true →
      ∃ t, exec (Form.lhld addr16).instr s = .next t ∧
        t.reg .l = s.readByte addr16 ∧
        t.reg .h = (s.afterRead addr16).readByte (addr16 + 1) ∧
        (∀ r, r ≠ .h → r ≠ .l → t.reg r = s.reg r) ∧
        KeepsMemory s t ∧
        t = { (s.afterRead addr16).afterRead (addr16 + 1) with regs := t.regs, pc := s.pc + 3 })

/-- R129 and R130, for sta, staxB and staxD. -/
def Obligations.StaAndStaxStoreTheAccumulator : Prop :=
  ∀ s : State,
    (∀ addr16,
      encode (Form.sta addr16).instr = [0x32, lo addr16, hi addr16] ∧
      Costs (.sta addr16) [.fetch4, .read, .read, .write] 13 ∧
      (s.present addr16 = true →
        ∃ t, exec (Form.sta addr16).instr s = .next t ∧
          Stored s t addr16 (s.reg .a) ∧
          t = { s with mem := t.mem, trace := t.trace, pc := s.pc + 3 })) ∧
    (∀ p,
      encode (Form.stax p).instr = [0x02 + 16 * pairCode (pairOfIndex p)] ∧
      Costs (.stax p) [.fetch4, .write] 7 ∧
      (s.present (s.pair (pairOfIndex p)) = true →
        ∃ t, exec (Form.stax p).instr s = .next t ∧
          Stored s t (s.pair (pairOfIndex p)) (s.reg .a) ∧
          t = { s with mem := t.mem, trace := t.trace, pc := s.pc + 1 }))

/-- R131, for shld. -/
def Obligations.ShldStoresLThenH : Prop :=
  ∀ (addr16 : Word) (s : State),
    encode (Form.shld addr16).instr = [0x22, lo addr16, hi addr16] ∧
    Costs (.shld addr16) [.fetch4, .read, .read, .write, .write] 16 ∧
    (s.present addr16 = true → s.present (addr16 + 1) = true →
      ∃ t, exec (Form.shld addr16).instr s = .next t ∧
        StoredTwo s t addr16 (s.reg .l) (addr16 + 1) (s.reg .h) ∧
        t = { s with mem := t.mem, trace := t.trace, pc := s.pc + 3 })

/-- R132 and R133, for sphl and xchg. -/
def Obligations.SphlCopiesAndXchgExchanges : Prop :=
  ∀ s : State,
    encode Form.sphl.instr = [0xF9] ∧ Costs .sphl [.fetch6] 6 ∧
    exec Form.sphl.instr s = .next { s with sp := join (s.reg .h) (s.reg .l), pc := s.pc + 1 } ∧
    encode Form.xchg.instr = [0xEB] ∧ Costs .xchg [.fetch4] 4 ∧
    ∃ t, exec Form.xchg.instr s = .next t ∧
      t.reg .d = s.reg .h ∧ t.reg .h = s.reg .d ∧ t.reg .e = s.reg .l ∧ t.reg .l = s.reg .e ∧
      t.reg .a = s.reg .a ∧ t.reg .b = s.reg .b ∧ t.reg .c = s.reg .c ∧
      KeepsMemory s t ∧
      t = { s with regs := t.regs, pc := s.pc + 1 }

/-- R134, for xthl: both reads before both writes, the write at SP + 1 first. -/
def Obligations.XthlExchangesHLWithTheTop : Prop :=
  ∀ s : State,
    encode Form.xthl.instr = [0xE3] ∧
    Costs .xthl [.fetch4, .read, .read, .write, .write] 16 ∧
    (s.canPop →
      ∃ t, exec Form.xthl.instr s = .next t ∧
        t.reg .l = s.topLow ∧ t.reg .h = s.topHigh ∧
        (∀ r, r ≠ .h → r ≠ .l → t.reg r = s.reg r) ∧
        StoredTwo s t (s.sp + 1) (s.reg .h) s.sp (s.reg .l) ∧
        t = { s.afterTopRead with regs := t.regs, mem := t.mem, trace := t.trace, pc := s.pc + 1 })

/-- R135, for pushB, pushD and pushH. -/
def Obligations.PushStoresThePair : Prop :=
  ∀ (p : DataPair) (s : State),
    encode (Form.push p).instr = [0xC5 + 16 * pairCode (pairOfData p)] ∧
    Costs (.push p) [.fetch6, .write, .write] 12 ∧
    (s.canPush →
      ∃ t, exec (Form.push p).instr s = .next t ∧
        Pushed s t (s.pair (pairOfData p)) ∧
        t = { s with sp := t.sp, mem := t.mem, trace := t.trace, pc := s.pc + 1 })

/-- R136 and R30, for pushPSW: the flag byte stored has the five flags in their places; its bits 5, 3 and 1 are
free (log 8). That the count of free values drawn goes up by one is the model's own (log 9), no rule of the spec. -/
def Obligations.PushPswStoresAAndTheFlagByte : Prop :=
  ∀ s : State,
    encode Form.pushPsw.instr = [0xF5] ∧
    Costs .pushPsw [.fetch6, .write, .write] 12 ∧
    (s.canPush →
      ∃ (t : State) (f : Byte), exec Form.pushPsw.instr s = .next t ∧
        f.getLsbD 7 = s.flags.sf ∧ f.getLsbD 6 = s.flags.zf ∧ f.getLsbD 4 = s.flags.af ∧
        f.getLsbD 2 = s.flags.pf ∧ f.getLsbD 0 = s.flags.cf ∧
        Pushed s t (join (s.reg .a) f) ∧
        t = { s with sp := t.sp, mem := t.mem, trace := t.trace, draws := s.draws + 1, pc := s.pc + 1 })

/-- R137, for popB, popD and popH. -/
def Obligations.PopLoadsThePair : Prop :=
  ∀ (p : DataPair) (s : State),
    encode (Form.pop p).instr = [0xC1 + 16 * pairCode (pairOfData p)] ∧
    Costs (.pop p) [.fetch4, .read, .read] 10 ∧
    (s.canPop →
      ∃ t, exec (Form.pop p).instr s = .next t ∧
        t.sp = s.sp + 2 ∧
        (∀ q, q ≠ .sp → t.pair q = if q = pairOfData p then join s.topHigh s.topLow else s.pair q) ∧
        t.reg .a = s.reg .a ∧
        KeepsMemory s t ∧
        t = { s.afterTopRead with regs := t.regs, sp := t.sp, pc := s.pc + 1 })

/-- R138, for popPSW. -/
def Obligations.PopPswLoadsAAndTheFlags : Prop :=
  ∀ s : State,
    encode Form.popPsw.instr = [0xF1] ∧
    Costs .popPsw [.fetch4, .read, .read] 10 ∧
    (s.canPop →
      ∃ t, exec Form.popPsw.instr s = .next t ∧
        t.sp = s.sp + 2 ∧
        (∀ r, t.reg r = if r = .a then s.topHigh else s.reg r) ∧
        t.flags.sf = s.topLow.getLsbD 7 ∧ t.flags.zf = s.topLow.getLsbD 6 ∧
        t.flags.af = s.topLow.getLsbD 4 ∧ t.flags.pf = s.topLow.getLsbD 2 ∧
        t.flags.cf = s.topLow.getLsbD 0 ∧
        KeepsMemory s t ∧
        t = { s.afterTopRead with regs := t.regs, flags := t.flags, sp := t.sp, pc := s.pc + 1 })

/-- R139 and R140 with R67 and D5, for outPort and inPort. The byte IN receives is free (log 6): it depends on the draw and the
port. The count of draws is the model's own (log 9). -/
def Obligations.OutAndInReachThePort : Prop :=
  ∀ (port8 : Byte) (s : State),
    encode (Form.outPort port8).instr = [0xD3, port8] ∧
    Costs (.outPort port8) [.fetch4, .read, .ioWrite] 10 ∧
    exec (Form.outPort port8).instr s =
      .next { s with trace := s.trace ++ [.port port8 (s.reg .a)], pc := s.pc + 2 } ∧
    encode (Form.inPort port8).instr = [0xDB, port8] ∧
    Costs (.inPort port8) [.fetch4, .read, .ioRead] 10 ∧
    ∃ t, exec (Form.inPort port8).instr s = .next t ∧
      (∀ r, t.reg r = if r = .a then Config.portByte s.draws port8 else s.reg r) ∧
      KeepsMemory s t ∧
      t = { s with regs := t.regs, draws := s.draws + 1, pc := s.pc + 2 }

/-! ## Group II, arithmetic -/

/-- R160 to R165, for the constructors addB to addA, addM, adi, adcB to adcA, adcM and aci. -/
def Obligations.AddAndAdcAdd : Prop :=
  ∀ (withCarry : Bool) (x : Operand) (s : State),
    let op : AluOp := if withCarry then .adc else .add
    let c := if withCarry then bit s.flags.cf else 0
    encode (Form.alu op x).instr = aluBytes op x ∧
    Costs (.alu op x) (operandCycles x) (operandStates x) ∧
    (operandPresent s x →
      ∃ t, exec (Form.alu op x).instr s = .next t ∧
        (t.reg .a).toNat = ((s.reg .a).toNat + (operandValue s x).toNat + c) % 256 ∧
        t.flags.cf = decide (256 ≤ (s.reg .a).toNat + (operandValue s x).toNat + c) ∧
        t.flags.af = decide (16 ≤ (s.reg .a).toNat % 16 + (operandValue s x).toNat % 16 + c) ∧
        ZSPOf t.flags (t.reg .a) ∧
        (∀ r, r ≠ .a → t.reg r = s.reg r) ∧
        KeepsMemory s t ∧
        t = { operandRead s x with
              regs := t.regs, flags := t.flags
              pc := s.pc + operandBytes x })

/-- R168 to R173, for the constructors subB to subA, subM, sui, sbbB to sbbA, sbbM and sbi. CF is the borrow. That CF and AF are
these for every operand is the spec's own reading of its source (R8, R180, D10, C1; log 21). -/
def Obligations.SubAndSbbSubtract : Prop :=
  ∀ (withBorrow : Bool) (x : Operand) (s : State),
    let op : AluOp := if withBorrow then .sbb else .sub
    let c := if withBorrow then bit s.flags.cf else 0
    encode (Form.alu op x).instr = aluBytes op x ∧
    Costs (.alu op x) (operandCycles x) (operandStates x) ∧
    (operandPresent s x →
      ∃ t, exec (Form.alu op x).instr s = .next t ∧
        ((t.reg .a).toNat : Int) = ((s.reg .a).toNat - (operandValue s x).toNat - c : Int) % 256 ∧
        t.flags.cf = decide ((s.reg .a).toNat < (operandValue s x).toNat + c) ∧
        t.flags.af = decide ((operandValue s x).toNat % 16 + c ≤ (s.reg .a).toNat % 16) ∧
        ZSPOf t.flags (t.reg .a) ∧
        (∀ r, r ≠ .a → t.reg r = s.reg r) ∧
        KeepsMemory s t ∧
        t = { operandRead s x with
              regs := t.regs, flags := t.flags
              pc := s.pc + operandBytes x })

/-- R174, R175, R177 and R178, for inrB to inrA, inrM, dcrB to dcrA and dcrM. CF is kept. INR sets AF when the low nibble was
15; DCR clears it only when the low nibble was 0. -/
def Obligations.InrAndDcrStepTheByte : Prop :=
  ∀ (down : Bool) (s : State),
    let form := fun x => if down then Form.dcr x else Form.inr x
    let stepped := fun v : Byte => if down then v - 1 else v + 1
    let auxCarry := fun v : Byte => if down then decide (v.toNat % 16 ≠ 0) else decide (v.toNat % 16 = 15)
    (∀ r,
      encode (form (.reg r)).instr = [(if down then 0x05 else 0x04) + 8 * codeOf r] ∧
      Costs (form (.reg r)) [.fetch4] 4 ∧
      ∃ t, exec (form (.reg r)).instr s = .next t ∧
        (∀ q, t.reg q = if q = r then stepped (s.reg r) else s.reg q) ∧
        t.flags.cf = s.flags.cf ∧ t.flags.af = auxCarry (s.reg r) ∧
        ZSPOf t.flags (stepped (s.reg r)) ∧
        KeepsMemory s t ∧
        t = { s with regs := t.regs, flags := t.flags, pc := s.pc + 1 }) ∧
    encode (form .mem).instr = [if down then 0x35 else 0x34] ∧
    Costs (form .mem) [.fetch4, .read, .write] 10 ∧
    (s.present s.hl = true →
      ∃ t, exec (form .mem).instr s = .next t ∧
        Stored s t s.hl (stepped (s.readByte s.hl)) ∧
        t.flags.cf = s.flags.cf ∧ t.flags.af = auxCarry (s.readByte s.hl) ∧
        ZSPOf t.flags (stepped (s.readByte s.hl)) ∧
        t = { s.afterRead s.hl with flags := t.flags, mem := t.mem, trace := t.trace, pc := s.pc + 1 })

/-- R176 and R179, for inxB, inxD, inxH, inxSP and dcxB, dcxD, dcxH, dcxSP. No flag changes. -/
def Obligations.InxAndDcxStepThePair : Prop :=
  ∀ (p : Pair) (s : State),
    encode (Form.inx p).instr = [0x03 + 16 * pairCode p] ∧ Costs (.inx p) [.fetch6] 6 ∧
    (∃ t, exec (Form.inx p).instr s = .next t ∧
      (∀ q, t.pair q = if q = p then s.pair p + 1 else s.pair q) ∧
      t.reg .a = s.reg .a ∧ KeepsMemory s t ∧
      t = { s with regs := t.regs, sp := t.sp, pc := s.pc + 1 }) ∧
    encode (Form.dcx p).instr = [0x0B + 16 * pairCode p] ∧ Costs (.dcx p) [.fetch6] 6 ∧
    ∃ t, exec (Form.dcx p).instr s = .next t ∧
      (∀ q, t.pair q = if q = p then s.pair p - 1 else s.pair q) ∧
      t.reg .a = s.reg .a ∧ KeepsMemory s t ∧
      t = { s with regs := t.regs, sp := t.sp, pc := s.pc + 1 }

/-- R167, for dadB, dadD, dadH and dadSP. Only CF changes among the flags. -/
def Obligations.DadAddsThePairToHL : Prop :=
  ∀ (p : Pair) (s : State),
    encode (Form.dad p).instr = [0x09 + 16 * pairCode p] ∧
    Costs (.dad p) [.fetch4, .idle, .idle] 10 ∧
    ∃ t, exec (Form.dad p).instr s = .next t ∧
      t.hl.toNat = (s.hl.toNat + (s.pair p).toNat) % 65536 ∧
      t.flags = { s.flags with cf := decide (65536 ≤ s.hl.toNat + (s.pair p).toNat) } ∧
      (∀ r, r ≠ .h → r ≠ .l → t.reg r = s.reg r) ∧
      KeepsMemory s t ∧
      t = { s with regs := t.regs, flags := t.flags, pc := s.pc + 1 }

/-- R166, for daa. The upper test, CF and AF are the spec's own reading of its source (D11; log 21). -/
def Obligations.DaaAddsTheCorrection : Prop :=
  ∀ s : State,
    let low := (s.reg .a).toNat % 16
    let high := (s.reg .a).toNat / 16
    let lowFix := 9 < low ∨ s.flags.af = true
    let highFix := 9 < high ∨ s.flags.cf = true ∨ (9 ≤ high ∧ 9 < low)
    encode Form.daa.instr = [0x27] ∧ Costs .daa [.fetch4] 4 ∧
    ∃ t, exec Form.daa.instr s = .next t ∧
      (∃ corr, (t.reg .a).toNat = ((s.reg .a).toNat + corr) % 256 ∧
        (lowFix → highFix → corr = 0x66) ∧ (lowFix → ¬ highFix → corr = 0x06) ∧
        (¬ lowFix → highFix → corr = 0x60) ∧ (¬ lowFix → ¬ highFix → corr = 0)) ∧
      (t.flags.cf = true ↔ highFix) ∧
      (t.flags.af = true ↔ 9 < low) ∧
      ZSPOf t.flags (t.reg .a) ∧
      (∀ r, r ≠ .a → t.reg r = s.reg r) ∧
      KeepsMemory s t ∧
      t = { s with regs := t.regs, flags := t.flags, pc := s.pc + 1 }

/-- DAA after an addition of packed decimal bytes gives the packed decimal sum and its carry (R166, D11), for ADI and ACI
followed by DAA. -/
def Obligations.DaaMakesTheDecimalSum : Prop :=
  ∀ (withCarry : Bool) (y : Byte) (s : State), IsBcd (s.reg .a) → IsBcd y →
    let op : AluOp := if withCarry then .adc else .add
    let c := if withCarry then bit s.flags.cf else 0
    ∃ t u, exec (Form.alu op (.imm y)).instr s = .next t ∧ exec Form.daa.instr t = .next u ∧
      IsBcd (u.reg .a) ∧
      bcdValue (u.reg .a) + 100 * bit u.flags.cf = bcdValue (s.reg .a) + bcdValue y + c

/-! ## Group III, logical -/

/-- R200 to R208, for the constructors anaB to anaA, anaM, ani, oraB to oraA, oraM, ori, xraB to xraA, xraM and xri. -/
def Obligations.AndOrXorCombineBitwise : Prop :=
  ∀ (op : AluOp) (x : Operand) (s : State), op = .ana ∨ op = .ora ∨ op = .xra →
    encode (Form.alu op x).instr = aluBytes op x ∧
    Costs (.alu op x) (operandCycles x) (operandStates x) ∧
    (operandPresent s x →
      ∃ t, exec (Form.alu op x).instr s = .next t ∧
        (∀ i, (t.reg .a).getLsbD i =
          (if op = .ana then (s.reg .a).getLsbD i && (operandValue s x).getLsbD i
           else if op = .ora then (s.reg .a).getLsbD i || (operandValue s x).getLsbD i
           else xor ((s.reg .a).getLsbD i) ((operandValue s x).getLsbD i))) ∧
        t.flags.cf = false ∧ t.flags.af = decide (op = .ana) ∧
        ZSPOf t.flags (t.reg .a) ∧
        (∀ r, r ≠ .a → t.reg r = s.reg r) ∧
        KeepsMemory s t ∧
        t = { operandRead s x with
              regs := t.regs, flags := t.flags
              pc := s.pc + operandBytes x })

/-- R209 to R211, for the constructors cmpB to cmpA, cmpM and cpi: the flags of the difference, A kept. The difference is the
spec's own reading of its source (R8, D10, C1; log 21). -/
def Obligations.CompareSetsTheFlagsOfTheDifference : Prop :=
  ∀ (x : Operand) (s : State),
    encode (Form.alu .cmp x).instr = aluBytes .cmp x ∧
    Costs (.alu .cmp x) (operandCycles x) (operandStates x) ∧
    (operandPresent s x →
      ∃ t, exec (Form.alu .cmp x).instr s = .next t ∧
        t.flags.cf = decide ((s.reg .a).toNat < (operandValue s x).toNat) ∧
        t.flags.zf = decide (s.reg .a = operandValue s x) ∧
        t.flags.af = decide ((operandValue s x).toNat % 16 ≤ (s.reg .a).toNat % 16) ∧
        ZSPOf t.flags (s.reg .a - operandValue s x) ∧
        (∀ r, t.reg r = s.reg r) ∧
        KeepsMemory s t ∧
        t = { operandRead s x with
              flags := t.flags
              pc := s.pc + operandBytes x })

/-- R212, R213 and R214, for cma, cmc and stc. -/
def Obligations.CmaCmcStcComplementAndSet : Prop :=
  ∀ s : State,
    encode Form.cma.instr = [0x2F] ∧ Costs .cma [.fetch4] 4 ∧
    (∃ t, exec Form.cma.instr s = .next t ∧
      (t.reg .a).toNat = 255 - (s.reg .a).toNat ∧
      (∀ r, r ≠ .a → t.reg r = s.reg r) ∧ KeepsMemory s t ∧
      t = { s with regs := t.regs, pc := s.pc + 1 }) ∧
    encode Form.cmc.instr = [0x3F] ∧ Costs .cmc [.fetch4] 4 ∧
    exec Form.cmc.instr s = .next { s with flags := { s.flags with cf := !s.flags.cf }, pc := s.pc + 1 } ∧
    encode Form.stc.instr = [0x37] ∧ Costs .stc [.fetch4] 4 ∧
    exec Form.stc.instr s = .next { s with flags := { s.flags with cf := true }, pc := s.pc + 1 }

/-- R215 to R218, for rlc, ral, rrc and rar: where each bit goes. Only A and CF change. -/
def Obligations.RotatesMoveTheBits : Prop :=
  ∀ (f : Form) (s : State), f = .rlc ∨ f = .ral ∨ f = .rrc ∨ f = .rar →
    encode f.instr = [if f = .rlc then 0x07 else if f = .ral then 0x17 else if f = .rrc then 0x0F else 0x1F] ∧
    Costs f [.fetch4] 4 ∧
    ∃ t, exec f.instr s = .next t ∧
      (f = .rlc → t.flags.cf = (s.reg .a).getLsbD 7 ∧ (t.reg .a).getLsbD 0 = (s.reg .a).getLsbD 7) ∧
      (f = .ral → t.flags.cf = (s.reg .a).getLsbD 7 ∧ (t.reg .a).getLsbD 0 = s.flags.cf) ∧
      (f = .rlc ∨ f = .ral → ∀ i, i < 7 → (t.reg .a).getLsbD (i + 1) = (s.reg .a).getLsbD i) ∧
      (f = .rrc → t.flags.cf = (s.reg .a).getLsbD 0 ∧ (t.reg .a).getLsbD 7 = (s.reg .a).getLsbD 0) ∧
      (f = .rar → t.flags.cf = (s.reg .a).getLsbD 0 ∧ (t.reg .a).getLsbD 7 = s.flags.cf) ∧
      (f = .rrc ∨ f = .rar → ∀ i, i < 7 → (t.reg .a).getLsbD i = (s.reg .a).getLsbD (i + 1)) ∧
      (∀ r, r ≠ .a → t.reg r = s.reg r) ∧
      KeepsMemory s t ∧
      t = { s with regs := t.regs, flags := { s.flags with cf := t.flags.cf }, pc := s.pc + 1 }

/-! ## Group IV, branching -/

/-- R230, R231, R232 and R238, for jmp, jnz, jz, jnc, jc, jpo, jpe, jp, jm and pchl: where each goes, and which flag each
condition tests. -/
def Obligations.JumpsSetThePC : Prop :=
  ∀ (addr16 : Word) (s : State),
    encode (Form.jmp addr16).instr = [0xC3, lo addr16, hi addr16] ∧
    Costs (.jmp addr16) [.fetch4, .read, .read] 10 ∧
    exec (Form.jmp addr16).instr s = .next { s with pc := addr16 } ∧
    encode Form.pchl.instr = [0xE9] ∧ Costs .pchl [.fetch6] 6 ∧
    exec Form.pchl.instr s = .next { s with pc := join (s.reg .h) (s.reg .l) } ∧
    ∀ cc,
      encode (Form.jcc cc addr16).instr = [0xC2 + 8 * condCode cc, lo addr16, hi addr16] ∧
      cycles (.jcc cc addr16) true = [.fetch4, .read, .read] ∧ tStates (.jcc cc addr16) true = 10 ∧
      cycles (.jcc cc addr16) false = [.fetch4, .read] ∧ tStates (.jcc cc addr16) false = 7 ∧
      exec (Form.jcc cc addr16).instr s =
        .next { s with pc := if s.flags.get (condFlag cc) = condSense cc then addr16 else s.pc + 3 }

/-- R233 and R234, for call, cnz, cz, cnc, cc, cpo, cpe, cp and cm. -/
def Obligations.CallsPushTheReturnAddress : Prop :=
  ∀ (addr16 : Word) (s : State),
    encode (Form.call addr16).instr = [0xCD, lo addr16, hi addr16] ∧
    Costs (.call addr16) [.fetch6, .read, .read, .write, .write] 18 ∧
    (s.canPush →
      ∃ t, exec (Form.call addr16).instr s = .next t ∧
        Pushed s t (s.pc + 3) ∧
        t = { s with sp := t.sp, mem := t.mem, trace := t.trace, pc := addr16 }) ∧
    ∀ cc,
      encode (Form.ccc cc addr16).instr = [0xC4 + 8 * condCode cc, lo addr16, hi addr16] ∧
      cycles (.ccc cc addr16) true = [.fetch6, .read, .read, .write, .write] ∧
      tStates (.ccc cc addr16) true = 18 ∧
      cycles (.ccc cc addr16) false = [.fetch6, .read] ∧ tStates (.ccc cc addr16) false = 9 ∧
      (s.flags.get (condFlag cc) = condSense cc → s.canPush →
        ∃ t, exec (Form.ccc cc addr16).instr s = .next t ∧
          Pushed s t (s.pc + 3) ∧
          t = { s with sp := t.sp, mem := t.mem, trace := t.trace, pc := addr16 }) ∧
      (s.flags.get (condFlag cc) ≠ condSense cc →
        exec (Form.ccc cc addr16).instr s = .next { s with pc := s.pc + 3 })

/-- R235 and R236, for ret, rnz, rz, rnc, rc, rpo, rpe, rp and rm. -/
def Obligations.ReturnsPopThePC : Prop :=
  ∀ s : State,
    encode Form.ret.instr = [0xC9] ∧ Costs .ret [.fetch4, .read, .read] 10 ∧
    (s.canPop →
      exec Form.ret.instr s =
        .next { s.afterTopRead with sp := s.sp + 2, pc := join s.topHigh s.topLow }) ∧
    ∀ cc,
      encode (Form.rcc cc).instr = [0xC0 + 8 * condCode cc] ∧
      cycles (.rcc cc) true = [.fetch6, .read, .read] ∧ tStates (.rcc cc) true = 12 ∧
      cycles (.rcc cc) false = [.fetch6] ∧ tStates (.rcc cc) false = 6 ∧
      (s.flags.get (condFlag cc) = condSense cc → s.canPop →
        exec (Form.rcc cc).instr s =
          .next { s.afterTopRead with sp := s.sp + 2, pc := join s.topHigh s.topLow }) ∧
      (s.flags.get (condFlag cc) ≠ condSense cc → exec (Form.rcc cc).instr s = .next { s with pc := s.pc + 1 })

/-- R237, for rst0 to rst7: a one-byte call to 8 times n; IE, the masks and the latch are not touched (R293). -/
def Obligations.RstCallsEightTimesN : Prop :=
  ∀ (n : Fin 8) (s : State),
    encode (Form.rst n).instr = [0xC7 + 8 * BitVec.ofNat 8 n.val] ∧
    Costs (.rst n) [.fetch6, .write, .write] 12 ∧
    (s.canPush →
      ∃ t, exec (Form.rst n).instr s = .next t ∧
        Pushed s t (s.pc + 1) ∧
        t.pc.toNat = 8 * n.val ∧
        t = { s with sp := t.sp, mem := t.mem, trace := t.trace, pc := t.pc })

/-- R239 (2), (3): a RET that finds SP and the two bytes as the call left them comes back behind the call, with SP as it
was before it; whatever else the subroutine changed. For call and rst0 to rst7 on a stack in RAM. -/
def Obligations.ReturnComesBackBehindTheCall : Prop :=
  ∀ (s t u : State) (f : Form),
    ((∃ a, f = .call a) ∨ ∃ n, f = .rst n) →
    s.kindAt (s.sp - 1) = .ram → s.kindAt (s.sp - 2) = .ram →
    exec f.instr s = .next t →
    u.memMap = t.memMap → u.sp = t.sp →
    u.byteAt (s.sp - 1) = t.byteAt (s.sp - 1) → u.byteAt (s.sp - 2) = t.byteAt (s.sp - 2) →
    ∃ v, exec .ret u = .next v ∧
      v.pc = (if ∃ a, f = .call a then s.pc + 3 else s.pc + 1) ∧ v.sp = s.sp

/-! ## Group V, machine control -/

/-- R260 and R261, for di and ei: the two cells, and that the boundary behind either accepts no interrupt but TRAP, whatever
the environment reports there. -/
def Obligations.DiAndEiSwitchTheEnable : Prop :=
  ∀ s : State,
    encode Form.di.instr = [0xF3] ∧ Costs .di [.fetch4] 4 ∧
    exec Form.di.instr s =
      .next { s with ctl := { s.ctl with ie := false, eiPending := false }, pc := s.pc + 1 } ∧
    encode Form.ei.instr = [0xFB] ∧ Costs .ei [.fetch4] 4 ∧
    exec Form.ei.instr s =
      .next { s with ctl := { s.ctl with ie := true, eiPending := true }, pc := s.pc + 1 } ∧
    ∀ (t : State) (events : List IrqEvent) (r : Request),
      exec Form.di.instr s = .next t ∨ exec Form.ei.instr s = .next t →
      ({ t with irq := events } : State).request = some r → r = .vectored .trap

/-- R262, for sim: the three partial actions are independent. -/
def Obligations.SimSetsMasksLatchAndSod : Prop :=
  ∀ s : State,
    encode Form.sim.instr = [0x30] ∧ Costs .sim [.fetch4] 4 ∧
    ∃ t, exec Form.sim.instr s = .next t ∧
      ((s.reg .a).getLsbD 3 = true →
        t.ctl.m75 = (s.reg .a).getLsbD 2 ∧ t.ctl.m65 = (s.reg .a).getLsbD 1 ∧
        t.ctl.m55 = (s.reg .a).getLsbD 0) ∧
      ((s.reg .a).getLsbD 3 = false →
        t.ctl.m75 = s.ctl.m75 ∧ t.ctl.m65 = s.ctl.m65 ∧ t.ctl.m55 = s.ctl.m55) ∧
      t.ctl.l75 = (if (s.reg .a).getLsbD 4 then false else s.ctl.l75) ∧
      t.ctl.sod = (if (s.reg .a).getLsbD 6 then (s.reg .a).getLsbD 7 else s.ctl.sod) ∧
      KeepsMemory s t ∧
      t = { s with
            ctl := { s.ctl with
                     m75 := t.ctl.m75, m65 := t.ctl.m65, m55 := t.ctl.m55, l75 := t.ctl.l75, sod := t.ctl.sod }
            pc := s.pc + 1 }

/-- R263, for rim: the byte read, bit by bit, with the two lines as the most recent boundary sampled them (R307). Bit 7, the
level of the SID pin, is free (log 7). The count of draws is the model's own (log 9). -/
def Obligations.RimReadsTheInterruptByte : Prop :=
  ∀ s : State,
    encode Form.rim.instr = [0x20] ∧ Costs .rim [.fetch4] 4 ∧
    ∃ t, exec Form.rim.instr s = .next t ∧
      (t.reg .a).getLsbD 7 = Config.sidLevel s.draws ∧
      (t.reg .a).getLsbD 6 = s.ctl.l75 ∧
      (t.reg .a).getLsbD 5 = s.ctl.line65 ∧
      (t.reg .a).getLsbD 4 = s.ctl.line55 ∧
      (t.reg .a).getLsbD 3 = (if s.ctl.trapShadowValid then s.ctl.trapIeShadow else s.ctl.ie) ∧
      (t.reg .a).getLsbD 2 = s.ctl.m75 ∧
      (t.reg .a).getLsbD 1 = s.ctl.m65 ∧
      (t.reg .a).getLsbD 0 = s.ctl.m55 ∧
      (∀ r, r ≠ .a → t.reg r = s.reg r) ∧
      KeepsMemory s t ∧
      t = { s with
            regs := t.regs, ctl := { s.ctl with trapShadowValid := false }, draws := s.draws + 1
            pc := s.pc + 1 }

/-- R265, and what executing HLT does of R264 with the T-states of its two cycles (R334, R335, C2), for hlt and nop. How a
halt goes on and ends is said by the statements HaltIsEnteredAndLeftOnlyAsSaid and HaltWithoutInterruptIsFinal. -/
def Obligations.HltHaltsAndNopAdvances : Prop :=
  ∀ s : State,
    encode Form.hlt.instr = [0x76] ∧ Costs .hlt [.fetch4, .idle] 5 ∧
    Cycle.states .hlt .fetch4 = 3 ∧ Cycle.states .hlt .idle = 2 ∧
    exec Form.hlt.instr s = .next { s with ctl := { s.ctl with halted := true }, pc := s.pc + 1 } ∧
    encode Form.nop.instr = [0x00] ∧ Costs .nop [.fetch4] 4 ∧
    exec Form.nop.instr s = .next { s with pc := s.pc + 1 }

/-- R99, for undefined: the ten bytes decode to it, only they do, and the model refuses it, which is the spec's own decision D1
(log 11). -/
def Obligations.UndefinedBytesAreRefused : Prop :=
  (∀ (op : Byte) (rest : List Byte),
    op ∈ [0x08, 0x10, 0x18, 0x28, 0x38, 0xCB, 0xD9, 0xDD, 0xED, 0xFD] ↔
      decode (op :: rest) = .ok (.undefined op, rest)) ∧
  (∀ (op b : Byte) (bytes rest : List Byte), decode (b :: bytes) = .ok (.undefined op, rest) → op = b) ∧
  ∀ (op : Byte) (s : State), exec (.undefined op) s = .refused (.illegalOpcode op)

/-! ## Encoding -/

/-- Decoding the bytes of a well-formed instruction, whatever follows them, gives the instruction back. -/
def Obligations.DecodeUndoesEncode : Prop :=
  ∀ (i : Instr) (rest : List Byte), i.wellFormed = true → decode (encode i ++ rest) = .ok (i, rest)

/-- Every sequence of bytes that decodes is the encoding of a well-formed instruction and the bytes left over. -/
def Obligations.DecodedBytesAreAnEncoding : Prop :=
  ∀ (bytes rest : List Byte) (i : Instr), decode bytes = .ok (i, rest) →
    i.wellFormed = true ∧ bytes = encode i ++ rest

/-- A few instructions written out from the bit patterns of R103, one of each group and length. -/
def Obligations.SampleBytesDecode : Prop :=
  decode [0b01111000] = .ok (.movAB, []) ∧
  decode [0b00110110, 0xE7] = .ok (.mviM 0xE7, []) ∧
  decode [0b00111010, 0x5D, 0x20] = .ok (.lda 0x205D, []) ∧
  decode [0b11010110, 0x01] = .ok (.sui 0x01, []) ∧
  decode [0b00101001] = .ok (.dadH, []) ∧
  decode [0b10100011] = .ok (.anaE, []) ∧
  decode [0b11011100, 0x00, 0x30] = .ok (.cc 0x3000, []) ∧
  decode [0b11101111] = .ok (.rst5, []) ∧
  decode [0b00110000] = .ok (.sim, []) ∧
  decode [0b01110110] = .ok (.hlt, []) ∧
  decode [0b11001101, 0x00] = .error .missingByte3

/-! ## The step -/

/-- A step that fetches runs the instruction its bytes decode to: `exec` of it on the state the boundary and the reads of
its bytes leave. A conditional jump or call whose condition is false has only its first two bytes read, whatever stands in
the third (R285, R90, R63, D14). The bytes may be RAM, ROM or a device's. -/
def Obligations.StepRunsTheDecodedInstruction : Prop :=
  (∀ (s : State) (n : Nat) (i : Instr), s.fetches = true →
    s.sampled.presentRun s.pc n → decode (s.sampled.readRun s.pc n).1 = .ok (i, []) →
    skipsByte3 s.flags i.form = false →
    step s = exec i (s.sampled.readRun s.pc n).2) ∧
  ∀ (s : State) (byte3 : Byte) (i : Instr), s.fetches = true →
    s.sampled.presentRun s.pc 2 → decode ((s.sampled.readRun s.pc 2).1 ++ [byte3]) = .ok (i, []) →
    skipsByte3 s.flags i.form = true →
    step s = exec i (s.sampled.readRun s.pc 2).2 ∧
    step s = .next { (s.sampled.readRun s.pc 2).2 with pc := s.pc + 3 }

/-- With no event left, no latched request that is admitted and no halt, the boundary only ends the EI delay and lowers the
two lines, and the step fetches (R285, D6). -/
def Obligations.QuietBoundaryFetches : Prop :=
  ∀ s : State, s.irq = [] → s.ctl.halted = false →
    (s.ctl.l75 = true → s.ctl.m75 = true ∨ s.ctl.ie = false ∨ s.ctl.eiPending = true) →
    s.fetches = true ∧
    s.sampled = { s with ctl := { s.ctl with eiPending := false, line55 := false, line65 := false } }

/-- R282 and R284: a request is taken if and only if it may be accepted and no request of higher priority may. -/
def Obligations.HighestAcceptableRequestIsTaken : Prop :=
  ∀ (s : State),
    (∀ r, s.request = some r ↔ canAccept s r ∧ ∀ q, priority q < priority r → ¬ canAccept s q) ∧
    (s.request = none ↔ ∀ r, ¬ canAccept s r)

/-- R286 for TRAP, RST 7.5, RST 6.5 and RST 5.5, behind the boundary of R285, which latches an RST 7.5 edge and samples the
two lines whichever of them is taken. Two clauses about TRAP are the model's inference (log 24, DEDUCED): that EI_PENDING is 0
after it, and that it writes the shadow also where an older one is still valid. -/
def Obligations.InterruptEntrySavesThePC : Prop :=
  ∀ (s : State) (src : Source), s.event.reset = false → s.request = some (.vectored src) → s.canPush →
    ∃ t, step s = .next t ∧
      Pushed s t s.pc ∧
      t.pc = (match src with | .trap => 0x0024 | .rst75 => 0x003C | .rst65 => 0x0034 | .rst55 => 0x002C) ∧
      t.ctl.halted = false ∧ t.ctl.ie = false ∧ t.ctl.eiPending = false ∧
      t.ctl.l75 = (if src = .rst75 then false else s.ctl.l75 || s.event.edge75) ∧
      t.ctl.trapIeShadow = (if src = .trap then s.ctl.ie else s.ctl.trapIeShadow) ∧
      t.ctl.trapShadowValid = (if src = .trap then true else s.ctl.trapShadowValid) ∧
      t = { s with
            sp := t.sp, pc := t.pc, mem := t.mem, trace := t.trace, irq := s.irq.tail
            ctl := { t.ctl with m55 := s.ctl.m55, m65 := s.ctl.m65, m75 := s.ctl.m75, sod := s.ctl.sod
                                line55 := s.event.line55, line65 := s.event.line65 } }

/-- R287: INTR runs the RST n or CALL the device supplies, with PC as the return address; any other opcode is refused, which is
the spec's own decision D6 (log 13). -/
def Obligations.IntrRunsTheDevicesInstruction : Prop :=
  ∀ (s : State), s.event.reset = false → s.request = some .intr →
    (∀ target : Word,
      ((∃ n : Fin 8, s.event.intrOpcode = 0xC7 + 8 * BitVec.ofNat 8 n.val ∧ target.toNat = 8 * n.val) ∨
        (s.event.intrOpcode = 0xCD ∧ target = join s.event.intrHi s.event.intrLo)) →
      s.canPush →
      ∃ t, step s = .next t ∧
        Pushed s t s.pc ∧ t.pc = target ∧
        t = { s with
              sp := t.sp, pc := t.pc, mem := t.mem, trace := t.trace, irq := s.irq.tail
              ctl := { s.sampled.ctl with halted := false, ie := false } }) ∧
    ((∀ n : Fin 8, s.event.intrOpcode ≠ 0xC7 + 8 * BitVec.ofNat 8 n.val) → s.event.intrOpcode ≠ 0xCD →
      step s = .refused (.intrOpcode s.event.intrOpcode))

/-- R291: at the boundary after EI no interrupt but TRAP is accepted, whatever the environment reports, and the boundary
ends the delay: if the next instruction leaves the control cells alone, the boundary after it admits the maskable
interrupts. -/
def Obligations.EiAdmitsAfterOneMoreInstruction : Prop :=
  ∀ s : State, ∃ t, exec .ei s = .next t ∧
    (∀ (events : List IrqEvent) (r : Request), ({ t with irq := events } : State).request = some r → r = .vectored .trap) ∧
    ∀ (events : List IrqEvent) (u : State), u.ctl = ({ t with irq := events } : State).sampled.ctl → u.admits = true

/-- R288: TRAP clears IE and keeps its old value; the first RIM after the entry shows that value in D3, the second the real
IE. That this holds also where an older shadow is still valid is the model's inference (log 24, DEDUCED). -/
def Obligations.FirstRimAfterTrapShowsTheOldEnable : Prop :=
  ∀ s : State, s.event.reset = false → s.event.trap = true → s.canPush →
    ∃ t u v, step s = .next t ∧ exec .rim t = .next u ∧ exec .rim u = .next v ∧
      t.ctl.ie = false ∧
      (u.reg .a).getLsbD 3 = s.ctl.ie ∧ (v.reg .a).getLsbD 3 = false

/-- R330 and R41: what a reset event leaves. The cells the spec calls unspecified (registers, SP, flags, the shadow) are not
constrained. That the reset is a whole step, and that an RST 7.5 edge reported with it is dropped, so that L75 is 0 then too,
is the model's choice (log 17, DESIGN CHOICE), read from the loop of R285. -/
def Obligations.ResetEventSetsTheListedCells : Prop :=
  ∀ s : State, s.event.reset = true →
    ∃ t, step s = .next t ∧
      t.pc = 0 ∧ t.ctl.ie = false ∧ t.ctl.eiPending = false ∧
      t.ctl.m55 = true ∧ t.ctl.m65 = true ∧ t.ctl.m75 = true ∧
      t.ctl.l75 = false ∧ t.ctl.trapShadowValid = false ∧ t.ctl.sod = false ∧ t.ctl.halted = false ∧
      KeepsMemory s t ∧ t.memMap = s.memMap ∧ t.trace = s.trace

/-- R41: the values the spec gives for reset. The other cells of `State.reset` are the model's choice (log 1) and not
stated here. -/
def Obligations.ResetStateHasTheListedValues : Prop :=
  State.reset.pc = 0 ∧ State.reset.ctl.ie = false ∧ State.reset.ctl.eiPending = false ∧
  State.reset.ctl.m55 = true ∧ State.reset.ctl.m65 = true ∧ State.reset.ctl.m75 = true ∧
  State.reset.ctl.l75 = false ∧ State.reset.ctl.trapShadowValid = false ∧
  State.reset.ctl.sod = false ∧ State.reset.ctl.halted = false

/-! ## The whole machine -/

/-- The invariant holds at reset. -/
def Obligations.ResetMeetsTheInvariant : Prop := State.reset.Inv

/-- Every step keeps the invariant: memory in its canonical form, EI_PENDING only while IE is set, no EI_PENDING in the
halt state. -/
def Obligations.StepsKeepTheInvariant : Prop :=
  ∀ s t : State, s.Inv → step s = .next t → t.Inv

/-- R280: every instruction but the ten undefined bytes completes, on every operand value and every address, where memory is
behind every address. For all 246 constructors of defined instructions. -/
def Obligations.EveryDefinedInstructionCompletes : Prop :=
  ∀ (i : Instr) (s : State), (∀ a, s.present a = true) → (∀ op, i ≠ .undefined op) →
    ∃ t, exec i s = .next t

/-- An instruction stops only on an undefined byte or at an address with nothing behind it (R99, R74, R280; that the model
refuses there is the spec's own D1 and D4, log 11 and log 12). -/
def Obligations.InstructionsStopOnlyWhereTheSpecStops : Prop :=
  ∀ (i : Instr) (s : State),
    (∃ t, exec i s = .next t) ∨
    (∃ op, i = .undefined op ∧ exec i s = .refused (.illegalOpcode op)) ∨
    ∃ a, s.present a = false ∧ exec i s = .refused (.absentAddress a)

/-- R28: each flag an instruction does not affect keeps its value, each it always clears or sets is 0 or 1 after it; and an
interrupt entry writes no flag. -/
def Obligations.FlagsChangeOnlyAsTheTableSays : Prop :=
  (∀ (i : Instr) (s t : State) (f : Flag), exec i s = .next t →
    (flagEffect i.form f = .kept → t.flags.get f = s.flags.get f) ∧
    (flagEffect i.form f = .zero → t.flags.get f = false) ∧
    (flagEffect i.form f = .one → t.flags.get f = true)) ∧
  ∀ (s t : State), s.event.reset = false → s.request ≠ none → step s = .next t → t.flags = s.flags

/-- R29: an instruction that does not read a flag does the same whatever that flag holds; only the flag itself may come out
differently, and only if the instruction leaves it. -/
def Obligations.UnreadFlagsHaveNoInfluence : Prop :=
  ∀ (i : Instr) (f : Flag) (b : Bool) (s t : State), readsFlag i.form f = false → exec i s = .next t →
    ∃ u, exec i { s with flags := s.flags.set f b } = .next u ∧
      { u with flags := u.flags.set f (t.flags.get f) } = t ∧
      (u.flags.get f = t.flags.get f ∨ flagEffect i.form f = .kept)

/-- R264, R292 and R330: after a step the machine is halted if and only if there was no reset and no interrupt, and it was
halted before or the opcode fetched was HLT's. -/
def Obligations.HaltIsEnteredAndLeftOnlyAsSaid : Prop :=
  ∀ s t : State, step s = .next t →
    (t.ctl.halted = true ↔
      s.event.reset = false ∧ s.request = none ∧ (s.ctl.halted = true ∨ s.sampled.readByte s.pc = 0x76))

/-- R32: IE changes only by a reset, an interrupt entry, EI or DI. -/
def Obligations.EnableChangesOnlyAsSaid : Prop :=
  ∀ s t : State, step s = .next t → t.ctl.ie ≠ s.ctl.ie →
    s.event.reset = true ∨ s.request ≠ none ∨
    (s.fetches = true ∧ (s.sampled.readByte s.pc = 0xFB ∨ s.sampled.readByte s.pc = 0xF3))

/-- R34, R283: a request held or newly latched on RST 7.5 stays through every step but a reset, its own acceptance, or a SIM
with bit 4 of A set. -/
def Obligations.Rst75RequestStaysLatched : Prop :=
  ∀ s t : State, step s = .next t → s.ctl.l75 = true ∨ s.event.edge75 = true →
    t.ctl.l75 = true ∨ s.event.reset = true ∨ s.request = some (.vectored .rst75) ∨
    (s.fetches = true ∧ s.sampled.readByte s.pc = 0x30 ∧ (s.reg .a).getLsbD 4 = true)

/-- R74, R69, D4: no step changes the memory map, the bytes of ROM or any byte that is not RAM, and outputs are only added,
after those before them. Three things here are the model's choice (DESIGN CHOICE): the map as a field of State that stays as it
is (log 4), one trace for all outputs (log 26), and the count of draws (log 9). -/
def Obligations.RomStaysAndOutputsOnlyGrow : Prop :=
  ∀ s t : State, step s = .next t →
    t.memMap = s.memMap ∧
    (∀ a, s.kindAt a ≠ .ram → t.byteAt a = s.byteAt a) ∧
    (∃ outputs, t.trace = s.trace ++ outputs) ∧ s.draws ≤ t.draws

/-- R74, R69 and the spec's decision D4 for one access: what a read answers and what a write leaves, for each kind of address. The
count of draws (log 9) and the one trace of outputs (log 26) are the model's choice. -/
def Obligations.AccessesFollowTheMemoryMap : Prop :=
  ∀ (s : State) (a : Word) (v : Byte) (k : Byte → State → Result) (k' : State → Result),
    (s.kindAt a = .ram ∨ s.kindAt a = .rom → load s a k = k (s.byteAt a) s) ∧
    (s.kindAt a = .device →
      load s a k = k (Config.deviceByte s.draws a.toNat) { s with draws := s.draws + 1 }) ∧
    (s.kindAt a = .absent →
      load s a k = .refused (.absentAddress a) ∧ store s a v k' = .refused (.absentAddress a)) ∧
    (s.kindAt a = .rom → store s a v k' = k' s) ∧
    (s.kindAt a = .device → store s a v k' = k' { s with trace := s.trace ++ [.device a v] }) ∧
    (s.kindAt a = .ram →
      ∃ t, store s a v k' = k' t ∧ t.byteAt a = v ∧ (∀ b, b ≠ a → t.byteAt b = s.byteAt b) ∧
        t = { s with mem := t.mem })

/-- R292, R336: a halted machine with no event to come, no EI_PENDING and no admitted request on RST 7.5 stays halted for
every number of steps, with everything but the two sampled lines as it was. That a step of a halted machine answers a next
state is the model's inference (log 23, DEDUCED): R285 says that it stays halted. -/
def Obligations.HaltWithoutInterruptIsFinal : Prop :=
  ∀ (n : Nat) (s : State), s.ctl.halted = true → s.irq = [] → s.ctl.eiPending = false →
    (s.ctl.l75 = true → s.ctl.m75 = true ∨ s.ctl.ie = false) →
    ∃ t, Sys2Proof.core.run n s = .next t ∧
      t = { s with ctl := { s.ctl with line55 := t.ctl.line55, line65 := t.ctl.line65 } }
end

