-- ==== Sys2Proof/Laws/Exec.lean ====
section
/-! SUPPORT. The meaning of an instruction in terms of its form: 51 cases over the shared operations instead of 247. -/

namespace Sys2Proof.Machine
open Sys2Proof

/-- What the instruction of a form does, over the shared operations. -/
def formMeaning (f : Form) (s : State) : Result :=
  match f with
  | .mov dst src => movReg dst src s
  | .movFromM dst => movLoad dst s
  | .movToM src => movStore src s
  | .mvi x d8 => moveImm x d8 s
  | .lda a => execLda a s
  | .ldax p => loadIndexed p s
  | .lxi p w => loadPairImm p w s
  | .lhld a => execLhld a s
  | .sta a => execSta a s
  | .stax p => storeIndexed p s
  | .shld a => execShld a s
  | .sphl => execSphl s
  | .xchg => execXchg s
  | .xthl => execXthl s
  | .push p => pushPair p s
  | .pushPsw => execPushPSW s
  | .pop p => popPair p s
  | .popPsw => execPopPSW s
  | .outPort p => execOutPort p s
  | .inPort p => execInPort p s
  | .alu op x => operateOnA op x s
  | .daa => execDaa s
  | .dad p => addPair p s
  | .inr x => increment x s
  | .inx p => incrementPair p s
  | .dcr x => decrement x s
  | .dcx p => decrementPair p s
  | .cma => execCma s
  | .cmc => execCmc s
  | .stc => execStc s
  | .rlc => execRlc s
  | .ral => execRal s
  | .rrc => execRrc s
  | .rar => execRar s
  | .jmp a => execJmp a s
  | .jcc cc a => jumpIf cc a s
  | .call a => execCall a s
  | .ccc cc a => callIf cc a s
  | .ret => execRet s
  | .rcc cc => returnIf cc s
  | .rst n => restart n s
  | .pchl => execPchl s
  | .di => execDi s
  | .ei => execEi s
  | .sim => execSim s
  | .rim => execRim s
  | .hlt => execHlt s
  | .nop => execNop s
  | .undefined b => execUndefined b s

/-- Each arm of `exec` is the meaning of its constructor's form. -/
theorem exec_eq_formMeaning (i : Instr) (s : State) : exec i s = formMeaning i.form s := by
  cases i <;> rfl

/-- An instruction's form stands for the instruction. -/
theorem instr_form (i : Instr) : i.form.instr = i := by
  cases i <;> rfl

/-- The form of a form's instruction is that form. -/
theorem form_instr (f : Form) : f.instr.form = f := by
  cases f with
  | mov dst src => cases dst <;> cases src <;> rfl
  | movFromM dst => cases dst <;> rfl
  | movToM src => cases src <;> rfl
  | mvi x d8 =>
    cases x with
    | reg r => cases r <;> rfl
    | mem => rfl
  | ldax p => cases p <;> rfl
  | lxi p w => cases p <;> rfl
  | stax p => cases p <;> rfl
  | push p => cases p <;> rfl
  | pop p => cases p <;> rfl
  | alu op x =>
    cases x with
    | reg r => cases op <;> cases r <;> rfl
    | mem => cases op <;> rfl
    | imm d8 => cases op <;> rfl
  | dad p => cases p <;> rfl
  | inr x =>
    cases x with
    | reg r => cases r <;> rfl
    | mem => rfl
  | inx p => cases p <;> rfl
  | dcr x =>
    cases x with
    | reg r => cases r <;> rfl
    | mem => rfl
  | dcx p => cases p <;> rfl
  | jcc cc a => cases cc <;> rfl
  | ccc cc a => cases cc <;> rfl
  | rcc cc => cases cc <;> rfl
  | rst n => revert n; decide
  | _ => rfl

/-- The meaning of the instruction of a form. -/
theorem exec_instr (f : Form) (s : State) : exec f.instr s = formMeaning f s := by
  rw [exec_eq_formMeaning, form_instr]

end Sys2Proof.Machine
end

