-- ==== Sys2Proof/Laws/Flags.lean ====
section
/-! SUPPORT. The byte and flag computations in terms of plain arithmetic, one lemma per output. -/

namespace Sys2Proof.Machine

theorem join_toNat (h l : Byte) : (join h l).toNat = h.toNat * 256 + l.toNat := by
  have hl := l.isLt
  have key : (join h l).toNat = h.toNat <<< 8 ||| l.toNat := BitVec.toNat_append h l
  rw [key, ← Nat.shiftLeft_add_eq_or_of_lt (by omega), Nat.shiftLeft_eq]

theorem hi_toNat (w : Word) : (hi w).toNat = w.toNat / 256 := by
  have hw := w.isLt
  simp [hi, BitVec.extractLsb'_toNat, Nat.shiftRight_eq_div_pow]
  omega

theorem lo_toNat (w : Word) : (lo w).toNat = w.toNat % 256 := by
  simp [lo, BitVec.extractLsb'_toNat]

@[simp] theorem hi_join (h l : Byte) : hi (join h l) = h := by
  have := h.isLt; have := l.isLt
  apply BitVec.eq_of_toNat_eq
  rw [hi_toNat, join_toNat]
  omega

@[simp] theorem lo_join (h l : Byte) : lo (join h l) = l := by
  have := h.isLt; have := l.isLt
  apply BitVec.eq_of_toNat_eq
  rw [lo_toNat, join_toNat]
  omega

@[simp] theorem join_hi_lo (w : Word) : join (hi w) (lo w) = w := by
  apply BitVec.eq_of_toNat_eq
  rw [join_toNat, hi_toNat, lo_toNat]
  omega

theorem bit_le_one (b : Bool) : bit b ≤ 1 := by cases b <;> decide

theorem add8_res (a b : Byte) (c : Bool) :
    (add8 a b c).res.toNat = (a.toNat + b.toNat + bit c) % 256 := by
  cases c <;> simp [add8, bit]

theorem add8_cy (a b : Byte) (c : Bool) :
    (add8 a b c).cy = decide (256 ≤ a.toNat + b.toNat + bit c) := by
  have ha := a.isLt; have hb := b.isLt
  have h : ∀ x : BitVec 9, x.getLsbD 8 = decide (256 ≤ x.toNat) := by
    intro x
    have : x.getLsbD 8 = x.msb := by simp [BitVec.msb_eq_getLsbD_last]
    rw [this, BitVec.msb_eq_decide]
  cases c <;> simp only [add8, h, bit] <;> congr 1 <;> simp <;> omega

theorem add8_ac (a b : Byte) (c : Bool) :
    (add8 a b c).ac = decide (15 < a.toNat % 16 + b.toNat % 16 + bit c) := by
  simp [add8, BitVec.extractLsb'_toNat]

theorem sub8_res (a b : Byte) (c : Bool) :
    (sub8 a b c).res.toNat = (a.toNat + 256 - b.toNat + 256 - bit c) % 256 := by
  have ha := a.isLt; have hb := b.isLt
  simp only [sub8, add8_res, BitVec.toNat_not]
  cases c <;> simp [bit] <;> omega

/-- The borrow. -/
theorem sub8_cy (a b : Byte) (c : Bool) :
    (sub8 a b c).cy = decide (a.toNat < b.toNat + bit c) := by
  have ha := a.isLt; have hb := b.isLt
  have h : (sub8 a b c).cy = !decide (256 ≤ a.toNat + (2 ^ 8 - 1 - b.toNat) + bit (!c)) := by
    rw [← BitVec.toNat_not, ← add8_cy]
    rfl
  rw [h, Bool.eq_iff_iff, Bool.not_eq_true', decide_eq_false_iff_not, decide_eq_true_eq]
  cases c <;> simp only [bit, Bool.not_false, Bool.not_true, if_true, Bool.false_eq_true, if_false] <;> omega

theorem sub8_ac (a b : Byte) (c : Bool) :
    (sub8 a b c).ac = decide (b.toNat % 16 + bit c ≤ a.toNat % 16) := by
  have ha := a.isLt; have hb := b.isLt
  simp only [sub8, add8_ac, BitVec.toNat_not]
  cases c <;> simp [bit] <;> omega

theorem dad16_sum (x y : Word) : (dad16 x y).1 = x + y := by
  apply BitVec.eq_of_toNat_eq
  simp [dad16]

theorem dad16_carry (x y : Word) : (dad16 x y).2 = decide (65536 ≤ x.toNat + y.toNat) := by
  have hx := x.isLt; have hy := y.isLt
  have h : ∀ z : BitVec 17, z.getLsbD 16 = decide (65536 ≤ z.toNat) := by
    intro z
    have : z.getLsbD 16 = z.msb := by simp [BitVec.msb_eq_getLsbD_last]
    rw [this, BitVec.msb_eq_decide]
  simp only [dad16, h]
  congr 1
  simp
  omega

@[simp] theorem setZSP_cf (f : Flags) (v : Byte) : (f.setZSP v).cf = f.cf := rfl
@[simp] theorem setZSP_af (f : Flags) (v : Byte) : (f.setZSP v).af = f.af := rfl
@[simp] theorem setZSP_zf (f : Flags) (v : Byte) : (f.setZSP v).zf = (v == 0) := rfl
@[simp] theorem setZSP_sf (f : Flags) (v : Byte) : (f.setZSP v).sf = v.getLsbD 7 := rfl
@[simp] theorem setZSP_pf (f : Flags) (v : Byte) : (f.setZSP v).pf = parityEven v := rfl

/-- The defined bits of a flag byte come back; the unused ones do not matter. -/
@[simp] theorem unpack_pack (f : Flags) (u : BitVec 3) : Flags.unpack (f.pack u) = f := by
  obtain ⟨a, b, c, d, e⟩ := f
  revert a b c d e u
  decide

end Sys2Proof.Machine
end

