-- ==== Sys2Proof/Laws/Memory.lean ====
section
/-! SUPPORT. The memory list: a read after a write, and the canonical form kept. -/

namespace Sys2Proof.Machine

@[simp] theorem Memory.read_write_same (m : Memory) (a : Nat) (v : Byte) :
    (Memory.write m a v).read a = some v := by
  induction m with
  | nil => simp [Memory.write, Memory.read]
  | cons cell m ih =>
    obtain ⟨b, w⟩ := cell
    simp only [Memory.write]
    split
    · simp [Memory.read]
    · split
      · simp [Memory.read]
      · rename_i h
        simp [Memory.read, h, ih]

theorem Memory.read_write_other (m : Memory) {a b : Nat} (v : Byte) (h : b ≠ a) :
    (Memory.write m a v).read b = m.read b := by
  induction m with
  | nil => simp [Memory.write, Memory.read, h]
  | cons cell m ih =>
    obtain ⟨c, w⟩ := cell
    simp only [Memory.write]
    split
    · simp [Memory.read, h]
    · split
      · rename_i hac
        subst hac
        simp [Memory.read, h]
      · simp only [Memory.read, ih]

theorem Memory.wfFrom_write {m : Memory} {n a : Nat} (v : Byte) (hn : n ≤ a) (ha : a < 65536)
    (hm : Memory.wfFrom n m = true) : Memory.wfFrom n (Memory.write m a v) = true := by
  induction m generalizing n with
  | nil => simp [Memory.write, Memory.wfFrom, hn, ha]
  | cons cell m ih =>
    obtain ⟨b, w⟩ := cell
    simp only [Memory.wfFrom, Bool.and_eq_true, decide_eq_true_eq] at hm
    obtain ⟨⟨hnb, hb⟩, hrest⟩ := hm
    simp only [Memory.write]
    split
    · simp only [Memory.wfFrom, Bool.and_eq_true, decide_eq_true_eq]
      exact ⟨⟨hn, ha⟩, ⟨by omega, hb⟩, hrest⟩
    · split
      · rename_i hab
        subst hab
        simp only [Memory.wfFrom, Bool.and_eq_true, decide_eq_true_eq]
        exact ⟨⟨hn, ha⟩, hrest⟩
      · simp only [Memory.wfFrom, Bool.and_eq_true, decide_eq_true_eq]
        exact ⟨⟨hnb, hb⟩, ih (by omega) hrest⟩

/-- A write to an address of the 64K space keeps the canonical form. -/
theorem Memory.wf_write {m : Memory} {a : Nat} (v : Byte) (ha : a < 65536) (hm : m.wf = true) :
    (Memory.write m a v).wf = true := Memory.wfFrom_write v (Nat.zero_le a) ha hm

/-- The empty list has the canonical form. -/
theorem Memory.wf_nil : Memory.wf [] = true := rfl

end Sys2Proof.Machine
end

