-- ==== Sys2Proof/Laws/State.lean ====
section
/-! SUPPORT. What each update of the state does to each of its fields. -/

namespace Sys2Proof.Machine
open Sys2Proof

/-! ## Registers by name -/

@[simp] theorem Regs.get_set (r : Regs) (x y : Reg) (v : Byte) :
    (r.set x v).get y = if y = x then v else r.get y := by
  cases x <;> cases y <;> rfl

@[simp] theorem State.reg_setReg (s : State) (x y : Reg) (v : Byte) :
    (s.setReg x v).reg y = if y = x then v else s.reg y := Regs.get_set s.regs x y v

/-- Registers that read alike under every name are equal. -/
theorem Regs.ext_get (r q : Regs) (h : ∀ x, r.get x = q.get x) : r = q := by
  cases r; cases q
  have := h .a; have := h .b; have := h .c; have := h .d; have := h .e; have := h .h; have := h .l
  simp_all [Regs.get]

/-! ## setReg -/

@[simp] theorem State.setReg_regs (s : State) (x : Reg) (v : Byte) :
    (s.setReg x v).regs = s.regs.set x v := rfl

@[simp] theorem State.setReg_flags (s : State) (x : Reg) (v : Byte) :
    (s.setReg x v).flags = s.flags := rfl

@[simp] theorem State.setReg_sp (s : State) (x : Reg) (v : Byte) :
    (s.setReg x v).sp = s.sp := rfl

@[simp] theorem State.setReg_pc (s : State) (x : Reg) (v : Byte) :
    (s.setReg x v).pc = s.pc := rfl

@[simp] theorem State.setReg_ctl (s : State) (x : Reg) (v : Byte) :
    (s.setReg x v).ctl = s.ctl := rfl

@[simp] theorem State.setReg_mem (s : State) (x : Reg) (v : Byte) :
    (s.setReg x v).mem = s.mem := rfl

@[simp] theorem State.setReg_memMap (s : State) (x : Reg) (v : Byte) :
    (s.setReg x v).memMap = s.memMap := rfl

@[simp] theorem State.setReg_irq (s : State) (x : Reg) (v : Byte) :
    (s.setReg x v).irq = s.irq := rfl

@[simp] theorem State.setReg_trace (s : State) (x : Reg) (v : Byte) :
    (s.setReg x v).trace = s.trace := rfl

@[simp] theorem State.setReg_draws (s : State) (x : Reg) (v : Byte) :
    (s.setReg x v).draws = s.draws := rfl

/-! ## setSp -/

@[simp] theorem State.setSp_regs (s : State) (w : Word) :
    (s.setSp w).regs = s.regs := rfl

@[simp] theorem State.setSp_flags (s : State) (w : Word) :
    (s.setSp w).flags = s.flags := rfl

@[simp] theorem State.setSp_sp (s : State) (w : Word) :
    (s.setSp w).sp = w := rfl

@[simp] theorem State.setSp_pc (s : State) (w : Word) :
    (s.setSp w).pc = s.pc := rfl

@[simp] theorem State.setSp_ctl (s : State) (w : Word) :
    (s.setSp w).ctl = s.ctl := rfl

@[simp] theorem State.setSp_mem (s : State) (w : Word) :
    (s.setSp w).mem = s.mem := rfl

@[simp] theorem State.setSp_memMap (s : State) (w : Word) :
    (s.setSp w).memMap = s.memMap := rfl

@[simp] theorem State.setSp_irq (s : State) (w : Word) :
    (s.setSp w).irq = s.irq := rfl

@[simp] theorem State.setSp_trace (s : State) (w : Word) :
    (s.setSp w).trace = s.trace := rfl

@[simp] theorem State.setSp_draws (s : State) (w : Word) :
    (s.setSp w).draws = s.draws := rfl

@[simp] theorem State.setSp_reg (s : State) (w : Word) (y : Reg) :
    (s.setSp w).reg y = s.reg y := rfl

/-! ## setPc -/

@[simp] theorem State.setPc_regs (s : State) (w : Word) :
    (s.setPc w).regs = s.regs := rfl

@[simp] theorem State.setPc_flags (s : State) (w : Word) :
    (s.setPc w).flags = s.flags := rfl

@[simp] theorem State.setPc_sp (s : State) (w : Word) :
    (s.setPc w).sp = s.sp := rfl

@[simp] theorem State.setPc_pc (s : State) (w : Word) :
    (s.setPc w).pc = w := rfl

@[simp] theorem State.setPc_ctl (s : State) (w : Word) :
    (s.setPc w).ctl = s.ctl := rfl

@[simp] theorem State.setPc_mem (s : State) (w : Word) :
    (s.setPc w).mem = s.mem := rfl

@[simp] theorem State.setPc_memMap (s : State) (w : Word) :
    (s.setPc w).memMap = s.memMap := rfl

@[simp] theorem State.setPc_irq (s : State) (w : Word) :
    (s.setPc w).irq = s.irq := rfl

@[simp] theorem State.setPc_trace (s : State) (w : Word) :
    (s.setPc w).trace = s.trace := rfl

@[simp] theorem State.setPc_draws (s : State) (w : Word) :
    (s.setPc w).draws = s.draws := rfl

@[simp] theorem State.setPc_reg (s : State) (w : Word) (y : Reg) :
    (s.setPc w).reg y = s.reg y := rfl

/-! ## setFlags -/

@[simp] theorem State.setFlags_regs (s : State) (f : Flags) :
    (s.setFlags f).regs = s.regs := rfl

@[simp] theorem State.setFlags_flags (s : State) (f : Flags) :
    (s.setFlags f).flags = f := rfl

@[simp] theorem State.setFlags_sp (s : State) (f : Flags) :
    (s.setFlags f).sp = s.sp := rfl

@[simp] theorem State.setFlags_pc (s : State) (f : Flags) :
    (s.setFlags f).pc = s.pc := rfl

@[simp] theorem State.setFlags_ctl (s : State) (f : Flags) :
    (s.setFlags f).ctl = s.ctl := rfl

@[simp] theorem State.setFlags_mem (s : State) (f : Flags) :
    (s.setFlags f).mem = s.mem := rfl

@[simp] theorem State.setFlags_memMap (s : State) (f : Flags) :
    (s.setFlags f).memMap = s.memMap := rfl

@[simp] theorem State.setFlags_irq (s : State) (f : Flags) :
    (s.setFlags f).irq = s.irq := rfl

@[simp] theorem State.setFlags_trace (s : State) (f : Flags) :
    (s.setFlags f).trace = s.trace := rfl

@[simp] theorem State.setFlags_draws (s : State) (f : Flags) :
    (s.setFlags f).draws = s.draws := rfl

@[simp] theorem State.setFlags_reg (s : State) (f : Flags) (y : Reg) :
    (s.setFlags f).reg y = s.reg y := rfl

/-! ## setCtl -/

@[simp] theorem State.setCtl_regs (s : State) (k : Control) :
    (s.setCtl k).regs = s.regs := rfl

@[simp] theorem State.setCtl_flags (s : State) (k : Control) :
    (s.setCtl k).flags = s.flags := rfl

@[simp] theorem State.setCtl_sp (s : State) (k : Control) :
    (s.setCtl k).sp = s.sp := rfl

@[simp] theorem State.setCtl_pc (s : State) (k : Control) :
    (s.setCtl k).pc = s.pc := rfl

@[simp] theorem State.setCtl_ctl (s : State) (k : Control) :
    (s.setCtl k).ctl = k := rfl

@[simp] theorem State.setCtl_mem (s : State) (k : Control) :
    (s.setCtl k).mem = s.mem := rfl

@[simp] theorem State.setCtl_memMap (s : State) (k : Control) :
    (s.setCtl k).memMap = s.memMap := rfl

@[simp] theorem State.setCtl_irq (s : State) (k : Control) :
    (s.setCtl k).irq = s.irq := rfl

@[simp] theorem State.setCtl_trace (s : State) (k : Control) :
    (s.setCtl k).trace = s.trace := rfl

@[simp] theorem State.setCtl_draws (s : State) (k : Control) :
    (s.setCtl k).draws = s.draws := rfl

@[simp] theorem State.setCtl_reg (s : State) (k : Control) (y : Reg) :
    (s.setCtl k).reg y = s.reg y := rfl

/-! ## setCF -/

@[simp] theorem State.setCF_regs (s : State) (b : Bool) :
    (s.setCF b).regs = s.regs := rfl

@[simp] theorem State.setCF_flags (s : State) (b : Bool) :
    (s.setCF b).flags = { s.flags with cf := b } := rfl

@[simp] theorem State.setCF_sp (s : State) (b : Bool) :
    (s.setCF b).sp = s.sp := rfl

@[simp] theorem State.setCF_pc (s : State) (b : Bool) :
    (s.setCF b).pc = s.pc := rfl

@[simp] theorem State.setCF_ctl (s : State) (b : Bool) :
    (s.setCF b).ctl = s.ctl := rfl

@[simp] theorem State.setCF_mem (s : State) (b : Bool) :
    (s.setCF b).mem = s.mem := rfl

@[simp] theorem State.setCF_memMap (s : State) (b : Bool) :
    (s.setCF b).memMap = s.memMap := rfl

@[simp] theorem State.setCF_irq (s : State) (b : Bool) :
    (s.setCF b).irq = s.irq := rfl

@[simp] theorem State.setCF_trace (s : State) (b : Bool) :
    (s.setCF b).trace = s.trace := rfl

@[simp] theorem State.setCF_draws (s : State) (b : Bool) :
    (s.setCF b).draws = s.draws := rfl

@[simp] theorem State.setCF_reg (s : State) (b : Bool) (y : Reg) :
    (s.setCF b).reg y = s.reg y := rfl

/-! ## drawn -/

@[simp] theorem State.drawn_regs (s : State) :
    (s.drawn).regs = s.regs := rfl

@[simp] theorem State.drawn_flags (s : State) :
    (s.drawn).flags = s.flags := rfl

@[simp] theorem State.drawn_sp (s : State) :
    (s.drawn).sp = s.sp := rfl

@[simp] theorem State.drawn_pc (s : State) :
    (s.drawn).pc = s.pc := rfl

@[simp] theorem State.drawn_ctl (s : State) :
    (s.drawn).ctl = s.ctl := rfl

@[simp] theorem State.drawn_mem (s : State) :
    (s.drawn).mem = s.mem := rfl

@[simp] theorem State.drawn_memMap (s : State) :
    (s.drawn).memMap = s.memMap := rfl

@[simp] theorem State.drawn_irq (s : State) :
    (s.drawn).irq = s.irq := rfl

@[simp] theorem State.drawn_trace (s : State) :
    (s.drawn).trace = s.trace := rfl

@[simp] theorem State.drawn_draws (s : State) :
    (s.drawn).draws = s.draws + 1 := rfl

@[simp] theorem State.drawn_reg (s : State) (y : Reg) :
    (s.drawn).reg y = s.reg y := rfl

/-! ## emit -/

@[simp] theorem State.emit_regs (s : State) (e : OutEvent) :
    (s.emit e).regs = s.regs := rfl

@[simp] theorem State.emit_flags (s : State) (e : OutEvent) :
    (s.emit e).flags = s.flags := rfl

@[simp] theorem State.emit_sp (s : State) (e : OutEvent) :
    (s.emit e).sp = s.sp := rfl

@[simp] theorem State.emit_pc (s : State) (e : OutEvent) :
    (s.emit e).pc = s.pc := rfl

@[simp] theorem State.emit_ctl (s : State) (e : OutEvent) :
    (s.emit e).ctl = s.ctl := rfl

@[simp] theorem State.emit_mem (s : State) (e : OutEvent) :
    (s.emit e).mem = s.mem := rfl

@[simp] theorem State.emit_memMap (s : State) (e : OutEvent) :
    (s.emit e).memMap = s.memMap := rfl

@[simp] theorem State.emit_irq (s : State) (e : OutEvent) :
    (s.emit e).irq = s.irq := rfl

@[simp] theorem State.emit_trace (s : State) (e : OutEvent) :
    (s.emit e).trace = s.trace ++ [e] := rfl

@[simp] theorem State.emit_draws (s : State) (e : OutEvent) :
    (s.emit e).draws = s.draws := rfl

@[simp] theorem State.emit_reg (s : State) (e : OutEvent) (y : Reg) :
    (s.emit e).reg y = s.reg y := rfl

/-! ## advance -/

@[simp] theorem State.advance_regs (s : State) (n : Nat) :
    (s.advance n).regs = s.regs := rfl

@[simp] theorem State.advance_flags (s : State) (n : Nat) :
    (s.advance n).flags = s.flags := rfl

@[simp] theorem State.advance_sp (s : State) (n : Nat) :
    (s.advance n).sp = s.sp := rfl

@[simp] theorem State.advance_pc (s : State) (n : Nat) :
    (s.advance n).pc = s.pc + BitVec.ofNat 16 n := rfl

@[simp] theorem State.advance_ctl (s : State) (n : Nat) :
    (s.advance n).ctl = s.ctl := rfl

@[simp] theorem State.advance_mem (s : State) (n : Nat) :
    (s.advance n).mem = s.mem := rfl

@[simp] theorem State.advance_memMap (s : State) (n : Nat) :
    (s.advance n).memMap = s.memMap := rfl

@[simp] theorem State.advance_irq (s : State) (n : Nat) :
    (s.advance n).irq = s.irq := rfl

@[simp] theorem State.advance_trace (s : State) (n : Nat) :
    (s.advance n).trace = s.trace := rfl

@[simp] theorem State.advance_draws (s : State) (n : Nat) :
    (s.advance n).draws = s.draws := rfl

@[simp] theorem State.advance_reg (s : State) (n : Nat) (y : Reg) :
    (s.advance n).reg y = s.reg y := rfl

/-! ## eventTaken -/

@[simp] theorem State.eventTaken_regs (s : State) :
    (s.eventTaken).regs = s.regs := rfl

@[simp] theorem State.eventTaken_flags (s : State) :
    (s.eventTaken).flags = s.flags := rfl

@[simp] theorem State.eventTaken_sp (s : State) :
    (s.eventTaken).sp = s.sp := rfl

@[simp] theorem State.eventTaken_pc (s : State) :
    (s.eventTaken).pc = s.pc := rfl

@[simp] theorem State.eventTaken_ctl (s : State) :
    (s.eventTaken).ctl = s.ctl := rfl

@[simp] theorem State.eventTaken_mem (s : State) :
    (s.eventTaken).mem = s.mem := rfl

@[simp] theorem State.eventTaken_memMap (s : State) :
    (s.eventTaken).memMap = s.memMap := rfl

@[simp] theorem State.eventTaken_irq (s : State) :
    (s.eventTaken).irq = s.irq.tail := rfl

@[simp] theorem State.eventTaken_trace (s : State) :
    (s.eventTaken).trace = s.trace := rfl

@[simp] theorem State.eventTaken_draws (s : State) :
    (s.eventTaken).draws = s.draws := rfl

@[simp] theorem State.eventTaken_reg (s : State) (y : Reg) :
    (s.eventTaken).reg y = s.reg y := rfl

/-! ## setPair -/

@[simp] theorem State.setPair_flags (s : State) (p : Pair) (w : Word) :
    (s.setPair p w).flags = s.flags := by cases p <;> rfl

@[simp] theorem State.setPair_pc (s : State) (p : Pair) (w : Word) :
    (s.setPair p w).pc = s.pc := by cases p <;> rfl

@[simp] theorem State.setPair_ctl (s : State) (p : Pair) (w : Word) :
    (s.setPair p w).ctl = s.ctl := by cases p <;> rfl

@[simp] theorem State.setPair_mem (s : State) (p : Pair) (w : Word) :
    (s.setPair p w).mem = s.mem := by cases p <;> rfl

@[simp] theorem State.setPair_memMap (s : State) (p : Pair) (w : Word) :
    (s.setPair p w).memMap = s.memMap := by cases p <;> rfl

@[simp] theorem State.setPair_irq (s : State) (p : Pair) (w : Word) :
    (s.setPair p w).irq = s.irq := by cases p <;> rfl

@[simp] theorem State.setPair_trace (s : State) (p : Pair) (w : Word) :
    (s.setPair p w).trace = s.trace := by cases p <;> rfl

@[simp] theorem State.setPair_draws (s : State) (p : Pair) (w : Word) :
    (s.setPair p w).draws = s.draws := by cases p <;> rfl

/-! ## afterRead and afterWrite -/

@[simp] theorem State.afterRead_regs (s : State) (a : Word) : (s.afterRead a).regs = s.regs := by
  unfold State.afterRead; split <;> rfl

@[simp] theorem State.afterRead_flags (s : State) (a : Word) : (s.afterRead a).flags = s.flags := by
  unfold State.afterRead; split <;> rfl

@[simp] theorem State.afterRead_sp (s : State) (a : Word) : (s.afterRead a).sp = s.sp := by
  unfold State.afterRead; split <;> rfl

@[simp] theorem State.afterRead_pc (s : State) (a : Word) : (s.afterRead a).pc = s.pc := by
  unfold State.afterRead; split <;> rfl

@[simp] theorem State.afterRead_ctl (s : State) (a : Word) : (s.afterRead a).ctl = s.ctl := by
  unfold State.afterRead; split <;> rfl

@[simp] theorem State.afterRead_mem (s : State) (a : Word) : (s.afterRead a).mem = s.mem := by
  unfold State.afterRead; split <;> rfl

@[simp] theorem State.afterRead_memMap (s : State) (a : Word) : (s.afterRead a).memMap = s.memMap := by
  unfold State.afterRead; split <;> rfl

@[simp] theorem State.afterRead_irq (s : State) (a : Word) : (s.afterRead a).irq = s.irq := by
  unfold State.afterRead; split <;> rfl

@[simp] theorem State.afterRead_trace (s : State) (a : Word) : (s.afterRead a).trace = s.trace := by
  unfold State.afterRead; split <;> rfl

@[simp] theorem State.afterRead_reg (s : State) (a : Word) (y : Reg) : (s.afterRead a).reg y = s.reg y := by
  simp [State.reg]

@[simp] theorem State.afterWrite_regs (s : State) (a : Word) (v : Byte) :
    (s.afterWrite a v).regs = s.regs := by
  unfold State.afterWrite; split <;> rfl

@[simp] theorem State.afterWrite_flags (s : State) (a : Word) (v : Byte) :
    (s.afterWrite a v).flags = s.flags := by
  unfold State.afterWrite; split <;> rfl

@[simp] theorem State.afterWrite_sp (s : State) (a : Word) (v : Byte) :
    (s.afterWrite a v).sp = s.sp := by
  unfold State.afterWrite; split <;> rfl

@[simp] theorem State.afterWrite_pc (s : State) (a : Word) (v : Byte) :
    (s.afterWrite a v).pc = s.pc := by
  unfold State.afterWrite; split <;> rfl

@[simp] theorem State.afterWrite_ctl (s : State) (a : Word) (v : Byte) :
    (s.afterWrite a v).ctl = s.ctl := by
  unfold State.afterWrite; split <;> rfl

@[simp] theorem State.afterWrite_memMap (s : State) (a : Word) (v : Byte) :
    (s.afterWrite a v).memMap = s.memMap := by
  unfold State.afterWrite; split <;> rfl

@[simp] theorem State.afterWrite_irq (s : State) (a : Word) (v : Byte) :
    (s.afterWrite a v).irq = s.irq := by
  unfold State.afterWrite; split <;> rfl

@[simp] theorem State.afterWrite_draws (s : State) (a : Word) (v : Byte) :
    (s.afterWrite a v).draws = s.draws := by
  unfold State.afterWrite; split <;> rfl

@[simp] theorem State.afterWrite_reg (s : State) (a : Word) (v : Byte) (y : Reg) :
    (s.afterWrite a v).reg y = s.reg y := by
  simp [State.reg]

/-! ## The boundary -/

@[simp] theorem State.sampled_regs (s : State) : s.sampled.regs = s.regs := rfl

@[simp] theorem State.sampled_flags (s : State) : s.sampled.flags = s.flags := rfl

@[simp] theorem State.sampled_sp (s : State) : s.sampled.sp = s.sp := rfl

@[simp] theorem State.sampled_pc (s : State) : s.sampled.pc = s.pc := rfl

@[simp] theorem State.sampled_mem (s : State) : s.sampled.mem = s.mem := rfl

@[simp] theorem State.sampled_memMap (s : State) : s.sampled.memMap = s.memMap := rfl

@[simp] theorem State.sampled_irq (s : State) : s.sampled.irq = s.irq.tail := rfl

@[simp] theorem State.sampled_trace (s : State) : s.sampled.trace = s.trace := rfl

@[simp] theorem State.sampled_draws (s : State) : s.sampled.draws = s.draws := rfl

@[simp] theorem State.sampled_ctl (s : State) :
    s.sampled.ctl =
      { s.ctl with
        l75 := s.ctl.l75 || s.event.edge75
        eiPending := false
        line65 := s.event.line65
        line55 := s.event.line55 } := rfl

@[simp] theorem State.sampled_reg (s : State) (y : Reg) : s.sampled.reg y = s.reg y := rfl

end Sys2Proof.Machine
end

