-- ==== Sys2Proof/Laws/Ops.lean ====
section
/-! SUPPORT. For each shared operation, once, everything it can do: when it goes on, with which value and state; else its
refusal. A proof cites these and unfolds none of the operations. -/

namespace Sys2Proof.Machine
open Sys2Proof

/-! ## The map and the cells -/

theorem State.kindAt_congr {s t : State} (h : t.memMap = s.memMap) (a : Word) : t.kindAt a = s.kindAt a := by
  simp [State.kindAt, h]

theorem State.present_congr {s t : State} (h : t.memMap = s.memMap) (a : Word) : t.present a = s.present a := by
  simp [State.present, State.kindAt_congr h]

theorem State.byteAt_congr {s t : State} (h : t.mem = s.mem) (a : Word) : t.byteAt a = s.byteAt a := by
  simp [State.byteAt, h]

/-- The cells after a write: the written one, if it is RAM, and no other, has changed. -/
theorem State.byteAt_afterWrite (s : State) (a b : Word) (v : Byte) :
    (s.afterWrite a v).byteAt b = if s.kindAt a = .ram ∧ b = a then v else s.byteAt b := by
  unfold State.afterWrite
  split <;> rename_i hk
  · by_cases hb : b = a
    · subst hb
      simp [State.byteAt, hk]
    · have hne : b.toNat ≠ a.toNat := fun h => hb (BitVec.eq_of_toNat_eq h)
      simp [State.byteAt, hk, hb, Memory.read_write_other _ _ hne]
  · simp [hk]
  · simp [hk, State.byteAt]
  · simp [hk]

/-- The outputs after a write: one more if the address is a device's. -/
theorem State.trace_afterWrite (s : State) (a : Word) (v : Byte) :
    (s.afterWrite a v).trace = s.trace ++ (if s.kindAt a = .device then [.device a v] else []) := by
  unfold State.afterWrite
  split <;> rename_i hk <;> simp [hk]

theorem State.mem_wf_afterWrite {s : State} (a : Word) (v : Byte) (h : s.mem.wf = true) :
    (s.afterWrite a v).mem.wf = true := by
  unfold State.afterWrite
  split
  · exact Memory.wf_write v a.isLt h
  · exact h
  · exact h
  · exact h

theorem State.draws_afterRead (s : State) (a : Word) :
    (s.afterRead a).draws = s.draws + (if s.kindAt a = .device then 1 else 0) := by
  unfold State.afterRead
  split <;> rfl

/-! ## load and store -/

theorem load_present {s : State} {a : Word} (h : s.present a = true) (k : Byte → State → Result) :
    load s a k = k (s.readByte a) (s.afterRead a) := by simp [load, h]

theorem load_absent {s : State} {a : Word} (h : s.present a = false) (k : Byte → State → Result) :
    load s a k = .refused (.absentAddress a) := by simp [load, h]

/-- What a load that ends in a next state has done. -/
theorem load_next {s t : State} {a : Word} {k : Byte → State → Result} :
    load s a k = .next t ↔ s.present a = true ∧ k (s.readByte a) (s.afterRead a) = .next t := by
  unfold load
  split <;> simp_all

theorem store_present {s : State} {a : Word} (h : s.present a = true) (v : Byte) (k : State → Result) :
    store s a v k = k (s.afterWrite a v) := by simp [store, h]

theorem store_absent {s : State} {a : Word} (h : s.present a = false) (v : Byte) (k : State → Result) :
    store s a v k = .refused (.absentAddress a) := by simp [store, h]

/-- What a store that ends in a next state has done. -/
theorem store_next {s t : State} {a : Word} {v : Byte} {k : State → Result} :
    store s a v k = .next t ↔ s.present a = true ∧ k (s.afterWrite a v) = .next t := by
  unfold store
  split <;> simp_all

/-! ## The stack -/

theorem sp_sub_two (w : Word) : w - 1 - 1 = w - 2 := by bv_omega

theorem sp_add_two (w : Word) : w + 1 + 1 = w + 2 := by bv_omega

/-- The state after a push of two bytes. -/
def State.pushed (s : State) (w : Word) : State :=
  (((s.setSp (s.sp - 1)).afterWrite (s.sp - 1) (hi w)).setSp (s.sp - 2)).afterWrite (s.sp - 2) (lo w)

/-- The state after a pop of two bytes. -/
def State.popped (s : State) : State :=
  (((s.afterRead s.sp).setSp (s.sp + 1)).afterRead (s.sp + 1)).setSp (s.sp + 2)

/-- The word a pop of two bytes takes. -/
def State.poppedWord (s : State) : Word :=
  join (((s.afterRead s.sp).setSp (s.sp + 1)).readByte (s.sp + 1)) (s.readByte s.sp)

theorem push16_eq (s : State) (w : Word) (k : State → Result) :
    push16 s w k =
      if s.present (s.sp - 1) then
        if s.present (s.sp - 2) then k (s.pushed w) else .refused (.absentAddress (s.sp - 2))
      else .refused (.absentAddress (s.sp - 1)) := by
  have h1 : (s.setSp (s.sp - 1)).present (s.sp - 1) = s.present (s.sp - 1) := State.present_congr rfl _
  have h2 : (((s.setSp (s.sp - 1)).afterWrite (s.sp - 1) (hi w)).setSp (s.sp - 2)).present (s.sp - 2)
      = s.present (s.sp - 2) := State.present_congr (by simp) _
  simp only [push16, store, State.afterWrite_sp, State.setSp_sp, sp_sub_two, h1, h2]
  rfl

/-- What a push that ends in a next state has done. -/
theorem push16_next {s t : State} {w : Word} {k : State → Result} :
    push16 s w k = .next t ↔
      s.present (s.sp - 1) = true ∧ s.present (s.sp - 2) = true ∧ k (s.pushed w) = .next t := by
  rw [push16_eq]
  split <;> [split; skip] <;> simp_all

theorem pop16_eq (s : State) (k : Word → State → Result) :
    pop16 s k =
      if s.present s.sp then
        if s.present (s.sp + 1) then k s.poppedWord s.popped else .refused (.absentAddress (s.sp + 1))
      else .refused (.absentAddress s.sp) := by
  have h2 : ((s.afterRead s.sp).setSp (s.sp + 1)).present (s.sp + 1) = s.present (s.sp + 1) :=
    State.present_congr (by simp) _
  simp only [pop16, load, State.afterRead_sp, State.setSp_sp, h2, sp_add_two]
  rfl

/-- What a pop that ends in a next state has done. -/
theorem pop16_next {s t : State} {k : Word → State → Result} :
    pop16 s k = .next t ↔
      s.present s.sp = true ∧ s.present (s.sp + 1) = true ∧ k s.poppedWord s.popped = .next t := by
  rw [pop16_eq]
  split <;> [split; skip] <;> simp_all

theorem callTo_next {s t : State} {ret target : Word} :
    callTo s ret target = .next t ↔
      s.present (s.sp - 1) = true ∧ s.present (s.sp - 2) = true ∧ (s.pushed ret).setPc target = t := by
  simp [callTo, push16_next]

theorem returnFromStack_next {s t : State} :
    returnFromStack s = .next t ↔
      s.present s.sp = true ∧ s.present (s.sp + 1) = true ∧ s.popped.setPc s.poppedWord = t := by
  simp [returnFromStack, pop16_next]

/-- What taking a vectored interrupt has done. -/
theorem enter_next {s t : State} {src : Source} :
    enter src s = .next t ↔
      s.present (s.sp - 1) = true ∧ s.present (s.sp - 2) = true ∧
        ((s.setCtl (s.ctl.enter src)).pushed s.pc).setPc src.vector = t := by
  simp [enter, callTo_next, State.present_congr (s := s) (t := s.setCtl (s.ctl.enter src)) rfl]

/-! ## The pushed and popped states, field by field -/

@[simp] theorem State.pushed_regs (s : State) (w : Word) : (s.pushed w).regs = s.regs := by simp [State.pushed]
@[simp] theorem State.pushed_flags (s : State) (w : Word) : (s.pushed w).flags = s.flags := by simp [State.pushed]
@[simp] theorem State.pushed_sp (s : State) (w : Word) : (s.pushed w).sp = s.sp - 2 := by simp [State.pushed]
@[simp] theorem State.pushed_pc (s : State) (w : Word) : (s.pushed w).pc = s.pc := by simp [State.pushed]
@[simp] theorem State.pushed_ctl (s : State) (w : Word) : (s.pushed w).ctl = s.ctl := by simp [State.pushed]
@[simp] theorem State.pushed_memMap (s : State) (w : Word) : (s.pushed w).memMap = s.memMap := by simp [State.pushed]
@[simp] theorem State.pushed_irq (s : State) (w : Word) : (s.pushed w).irq = s.irq := by simp [State.pushed]
@[simp] theorem State.pushed_draws (s : State) (w : Word) : (s.pushed w).draws = s.draws := by simp [State.pushed]

@[simp] theorem State.popped_regs (s : State) : s.popped.regs = s.regs := by simp [State.popped]
@[simp] theorem State.popped_flags (s : State) : s.popped.flags = s.flags := by simp [State.popped]
@[simp] theorem State.popped_sp (s : State) : s.popped.sp = s.sp + 2 := by simp [State.popped]
@[simp] theorem State.popped_pc (s : State) : s.popped.pc = s.pc := by simp [State.popped]
@[simp] theorem State.popped_ctl (s : State) : s.popped.ctl = s.ctl := by simp [State.popped]
@[simp] theorem State.popped_mem (s : State) : s.popped.mem = s.mem := by simp [State.popped]
@[simp] theorem State.popped_memMap (s : State) : s.popped.memMap = s.memMap := by simp [State.popped]
@[simp] theorem State.popped_irq (s : State) : s.popped.irq = s.irq := by simp [State.popped]
@[simp] theorem State.popped_trace (s : State) : s.popped.trace = s.trace := by simp [State.popped]

/-- The cells after a push. -/
theorem State.byteAt_pushed (s : State) (w a : Word) :
    (s.pushed w).byteAt a =
      if s.kindAt (s.sp - 2) = .ram ∧ a = s.sp - 2 then lo w
      else if s.kindAt (s.sp - 1) = .ram ∧ a = s.sp - 1 then hi w
      else s.byteAt a := by
  have hk2 : (((s.setSp (s.sp - 1)).afterWrite (s.sp - 1) (hi w)).setSp (s.sp - 2)).kindAt (s.sp - 2)
      = s.kindAt (s.sp - 2) := State.kindAt_congr (by simp) _
  have hk1 : (s.setSp (s.sp - 1)).kindAt (s.sp - 1) = s.kindAt (s.sp - 1) := State.kindAt_congr rfl _
  have hb : (((s.setSp (s.sp - 1)).afterWrite (s.sp - 1) (hi w)).setSp (s.sp - 2)).byteAt a
      = ((s.setSp (s.sp - 1)).afterWrite (s.sp - 1) (hi w)).byteAt a := State.byteAt_congr rfl _
  have hb0 : (s.setSp (s.sp - 1)).byteAt a = s.byteAt a := State.byteAt_congr rfl _
  simp only [State.pushed, State.byteAt_afterWrite, hk2, hk1, hb, hb0]

theorem State.mem_wf_pushed {s : State} (w : Word) (h : s.mem.wf = true) : (s.pushed w).mem.wf = true :=
  State.mem_wf_afterWrite _ _ (State.mem_wf_afterWrite (s := s.setSp (s.sp - 1)) _ _ h)

/-! ## Operands -/

/-- What fetching a second operand can do. -/
theorem loadOperand_next {x : Operand} {s t : State} {k : Byte → State → Result} :
    loadOperand x s k = .next t ↔
      match x with
      | .reg r => k (s.reg r) s = .next t
      | .mem => s.present s.hl = true ∧ k (s.readByte s.hl) (s.afterRead s.hl) = .next t
      | .imm d8 => k d8 s = .next t := by
  cases x <;> simp [loadOperand, load_next]

theorem loadLoc_next {x : Loc} {s t : State} {k : Byte → State → Result} :
    loadLoc x s k = .next t ↔
      match x with
      | .reg r => k (s.reg r) s = .next t
      | .mem => s.present s.hl = true ∧ k (s.readByte s.hl) (s.afterRead s.hl) = .next t := by
  cases x <;> simp [loadLoc, load_next]

theorem storeLoc_next {x : Loc} {v : Byte} {s t : State} {k : State → Result} :
    storeLoc x v s k = .next t ↔
      match x with
      | .reg r => k (s.setReg r v) = .next t
      | .mem => s.present s.hl = true ∧ k (s.afterWrite s.hl v) = .next t := by
  cases x <;> simp [storeLoc, store_next]

end Sys2Proof.Machine
end

