-- ==== Sys2Proof/Laws/Frames.lean ====
section
/-! SUPPORT. The shared operations in the terms of Safety: what a write, a push and a pop leave, and what they keep. -/

namespace Sys2Proof.Machine
open Sys2Proof

/-- States equal in every field are equal. -/
theorem State.ext_fields {s t : State} (regs : s.regs = t.regs) (flags : s.flags = t.flags) (sp : s.sp = t.sp)
    (pc : s.pc = t.pc) (ctl : s.ctl = t.ctl) (mem : s.mem = t.mem) (memMap : s.memMap = t.memMap)
    (irq : s.irq = t.irq) (trace : s.trace = t.trace) (draws : s.draws = t.draws) : s = t := by
  cases s; cases t; simp_all

/-- A step that leaves the list of cells keeps memory. -/
theorem keepsMemory_of_mem {s t : State} (h : t.mem = s.mem) : KeepsMemory s t := fun a => State.byteAt_congr h a

/-- A write, made in a state with the memory, map and outputs of `s`. -/
theorem stored_of_afterWrite {s s1 t : State} {a : Word} {v : Byte} (map : s1.memMap = s.memMap)
    (mem : s1.mem = s.mem) (trace : s1.trace = s.trace) (mem' : t.mem = (s1.afterWrite a v).mem)
    (trace' : t.trace = (s1.afterWrite a v).trace) : Stored s t a v := by
  have hb : ∀ b, t.byteAt b = if s.kindAt a = .ram ∧ b = a then v else s.byteAt b := by
    intro b
    rw [State.byteAt_congr mem', State.byteAt_afterWrite, State.kindAt_congr map, State.byteAt_congr mem]
  refine ⟨fun h => by simp [hb, h], fun h => by simp [hb, h], fun b h => by simp [hb, h], ?_⟩
  rw [trace', State.trace_afterWrite, State.kindAt_congr map, trace]
  rfl

/-- Two writes to different addresses, the first made in a state with the memory, map and outputs of `s`. -/
theorem storedTwo_of_afterWrite {s s1 s2 t : State} {a b : Word} {v w : Byte} (hab : a ≠ b)
    (map1 : s1.memMap = s.memMap) (mem1 : s1.mem = s.mem) (trace1 : s1.trace = s.trace)
    (map2 : s2.memMap = s.memMap) (mem2 : s2.mem = (s1.afterWrite a v).mem)
    (trace2 : s2.trace = (s1.afterWrite a v).trace) (mem' : t.mem = (s2.afterWrite b w).mem)
    (trace' : t.trace = (s2.afterWrite b w).trace) : StoredTwo s t a v b w := by
  have hb : ∀ c, t.byteAt c =
      if s.kindAt b = .ram ∧ c = b then w else if s.kindAt a = .ram ∧ c = a then v else s.byteAt c := by
    intro c
    rw [State.byteAt_congr mem', State.byteAt_afterWrite, State.byteAt_congr mem2, State.byteAt_afterWrite,
      State.byteAt_congr mem1, State.kindAt_congr map1, State.kindAt_congr map2]
  refine ⟨fun h => by simp [hb, hab, h], fun h => by simp [hb, hab, h], fun h => by simp [hb, h],
    fun h => by simp [hb, hab.symm, h], fun c h1 h2 => by simp [hb, h1, h2], ?_⟩
  rw [trace', State.trace_afterWrite, trace2, State.trace_afterWrite, State.kindAt_congr map1,
    State.kindAt_congr map2, trace1]
  rfl

/-- A push, in the terms of `Pushed`. -/
theorem pushed_of_state {s t : State} {w : Word} (sp : t.sp = (s.pushed w).sp) (mem : t.mem = (s.pushed w).mem)
    (trace : t.trace = (s.pushed w).trace) : Pushed s t w :=
  ⟨by simp [sp], storedTwo_of_afterWrite (s1 := s.setSp (s.sp - 1))
    (s2 := ((s.setSp (s.sp - 1)).afterWrite (s.sp - 1) (hi w)).setSp (s.sp - 2)) (by bv_omega) rfl rfl rfl (by simp)
    rfl rfl mem trace⟩

/-- The state after a pop, in the terms of `afterTopRead`. -/
theorem State.popped_eq (s : State) : s.popped = { s.afterTopRead with sp := s.sp + 2 } := by
  apply State.ext_fields <;> simp [State.popped, State.afterTopRead, State.draws_afterRead, State.kindAt]

/-- The word popped, in the terms of `topHigh` and `topLow`. -/
theorem State.poppedWord_eq (s : State) : s.poppedWord = join s.topHigh s.topLow := rfl

theorem State.pair_setPair (s : State) (p q : Pair) (w : Word) :
    (s.setPair p w).pair q = if q = p then w else s.pair q := by
  cases p <;> cases q <;> simp [State.setPair, State.pair, State.hl, State.setReg, Regs.set, State.setSp]

theorem State.reg_a_setPair (s : State) (p : Pair) (w : Word) : (s.setPair p w).reg .a = s.reg .a := by
  cases p <;> rfl

/-- A condition holds when its flag has its value. -/
theorem holds_iff (f : Flags) (cc : Cond) : f.holds cc = true ↔ f.get (condFlag cc) = condSense cc := by
  cases cc <;> simp [Flags.holds, Flags.get, condFlag, condSense]

/-- `setZSP` sets the three flags of the byte. -/
theorem zspOf_setZSP (f : Flags) (v : Byte) : ZSPOf (f.setZSP v) v := by
  refine ⟨?_, ?_, rfl⟩
  · rw [setZSP_zf, Bool.eq_iff_iff]
    simp [BitVec.toNat_eq]
  · have h : v.getLsbD 7 = v.msb := by simp [BitVec.msb_eq_getLsbD_last]
    rw [setZSP_sf, h, BitVec.msb_eq_decide]

end Sys2Proof.Machine
end

