-- ==== Sys2Proof/Laws/PerInstr.lean ====
section
/-! SUPPORT. Per instruction: its form, taken back to an instruction, is itself, and its encoding has the length of its
form. -/

namespace Sys2Proof.Laws.FormView
open Sys2Proof

/-- The form of an instruction stands for that instruction, and where the form has a length the encoding has it too. -/
def Statement (i : Instr) : Prop := i.form.instr = i ∧ ∀ n, i.form.length = some n → (encode i).length = n

theorem movBB : Statement (.movBB) := ⟨rfl, by rintro _ ⟨⟩; rfl⟩
theorem movBC : Statement (.movBC) := ⟨rfl, by rintro _ ⟨⟩; rfl⟩
theorem movBD : Statement (.movBD) := ⟨rfl, by rintro _ ⟨⟩; rfl⟩
theorem movBE : Statement (.movBE) := ⟨rfl, by rintro _ ⟨⟩; rfl⟩
theorem movBH : Statement (.movBH) := ⟨rfl, by rintro _ ⟨⟩; rfl⟩
theorem movBL : Statement (.movBL) := ⟨rfl, by rintro _ ⟨⟩; rfl⟩
theorem movBA : Statement (.movBA) := ⟨rfl, by rintro _ ⟨⟩; rfl⟩
theorem movCB : Statement (.movCB) := ⟨rfl, by rintro _ ⟨⟩; rfl⟩
theorem movCC : Statement (.movCC) := ⟨rfl, by rintro _ ⟨⟩; rfl⟩
theorem movCD : Statement (.movCD) := ⟨rfl, by rintro _ ⟨⟩; rfl⟩
theorem movCE : Statement (.movCE) := ⟨rfl, by rintro _ ⟨⟩; rfl⟩
theorem movCH : Statement (.movCH) := ⟨rfl, by rintro _ ⟨⟩; rfl⟩
theorem movCL : Statement (.movCL) := ⟨rfl, by rintro _ ⟨⟩; rfl⟩
theorem movCA : Statement (.movCA) := ⟨rfl, by rintro _ ⟨⟩; rfl⟩
theorem movDB : Statement (.movDB) := ⟨rfl, by rintro _ ⟨⟩; rfl⟩
theorem movDC : Statement (.movDC) := ⟨rfl, by rintro _ ⟨⟩; rfl⟩
theorem movDD : Statement (.movDD) := ⟨rfl, by rintro _ ⟨⟩; rfl⟩
theorem movDE : Statement (.movDE) := ⟨rfl, by rintro _ ⟨⟩; rfl⟩
theorem movDH : Statement (.movDH) := ⟨rfl, by rintro _ ⟨⟩; rfl⟩
theorem movDL : Statement (.movDL) := ⟨rfl, by rintro _ ⟨⟩; rfl⟩
theorem movDA : Statement (.movDA) := ⟨rfl, by rintro _ ⟨⟩; rfl⟩
theorem movEB : Statement (.movEB) := ⟨rfl, by rintro _ ⟨⟩; rfl⟩
theorem movEC : Statement (.movEC) := ⟨rfl, by rintro _ ⟨⟩; rfl⟩
theorem movED : Statement (.movED) := ⟨rfl, by rintro _ ⟨⟩; rfl⟩
theorem movEE : Statement (.movEE) := ⟨rfl, by rintro _ ⟨⟩; rfl⟩
theorem movEH : Statement (.movEH) := ⟨rfl, by rintro _ ⟨⟩; rfl⟩
theorem movEL : Statement (.movEL) := ⟨rfl, by rintro _ ⟨⟩; rfl⟩
theorem movEA : Statement (.movEA) := ⟨rfl, by rintro _ ⟨⟩; rfl⟩
theorem movHB : Statement (.movHB) := ⟨rfl, by rintro _ ⟨⟩; rfl⟩
theorem movHC : Statement (.movHC) := ⟨rfl, by rintro _ ⟨⟩; rfl⟩
theorem movHD : Statement (.movHD) := ⟨rfl, by rintro _ ⟨⟩; rfl⟩
theorem movHE : Statement (.movHE) := ⟨rfl, by rintro _ ⟨⟩; rfl⟩
theorem movHH : Statement (.movHH) := ⟨rfl, by rintro _ ⟨⟩; rfl⟩
theorem movHL : Statement (.movHL) := ⟨rfl, by rintro _ ⟨⟩; rfl⟩
theorem movHA : Statement (.movHA) := ⟨rfl, by rintro _ ⟨⟩; rfl⟩
theorem movLB : Statement (.movLB) := ⟨rfl, by rintro _ ⟨⟩; rfl⟩
theorem movLC : Statement (.movLC) := ⟨rfl, by rintro _ ⟨⟩; rfl⟩
theorem movLD : Statement (.movLD) := ⟨rfl, by rintro _ ⟨⟩; rfl⟩
theorem movLE : Statement (.movLE) := ⟨rfl, by rintro _ ⟨⟩; rfl⟩
theorem movLH : Statement (.movLH) := ⟨rfl, by rintro _ ⟨⟩; rfl⟩
theorem movLL : Statement (.movLL) := ⟨rfl, by rintro _ ⟨⟩; rfl⟩
theorem movLA : Statement (.movLA) := ⟨rfl, by rintro _ ⟨⟩; rfl⟩
theorem movAB : Statement (.movAB) := ⟨rfl, by rintro _ ⟨⟩; rfl⟩
theorem movAC : Statement (.movAC) := ⟨rfl, by rintro _ ⟨⟩; rfl⟩
theorem movAD : Statement (.movAD) := ⟨rfl, by rintro _ ⟨⟩; rfl⟩
theorem movAE : Statement (.movAE) := ⟨rfl, by rintro _ ⟨⟩; rfl⟩
theorem movAH : Statement (.movAH) := ⟨rfl, by rintro _ ⟨⟩; rfl⟩
theorem movAL : Statement (.movAL) := ⟨rfl, by rintro _ ⟨⟩; rfl⟩
theorem movAA : Statement (.movAA) := ⟨rfl, by rintro _ ⟨⟩; rfl⟩
theorem movBM : Statement (.movBM) := ⟨rfl, by rintro _ ⟨⟩; rfl⟩
theorem movCM : Statement (.movCM) := ⟨rfl, by rintro _ ⟨⟩; rfl⟩
theorem movDM : Statement (.movDM) := ⟨rfl, by rintro _ ⟨⟩; rfl⟩
theorem movEM : Statement (.movEM) := ⟨rfl, by rintro _ ⟨⟩; rfl⟩
theorem movHM : Statement (.movHM) := ⟨rfl, by rintro _ ⟨⟩; rfl⟩
theorem movLM : Statement (.movLM) := ⟨rfl, by rintro _ ⟨⟩; rfl⟩
theorem movAM : Statement (.movAM) := ⟨rfl, by rintro _ ⟨⟩; rfl⟩
theorem movMB : Statement (.movMB) := ⟨rfl, by rintro _ ⟨⟩; rfl⟩
theorem movMC : Statement (.movMC) := ⟨rfl, by rintro _ ⟨⟩; rfl⟩
theorem movMD : Statement (.movMD) := ⟨rfl, by rintro _ ⟨⟩; rfl⟩
theorem movME : Statement (.movME) := ⟨rfl, by rintro _ ⟨⟩; rfl⟩
theorem movMH : Statement (.movMH) := ⟨rfl, by rintro _ ⟨⟩; rfl⟩
theorem movML : Statement (.movML) := ⟨rfl, by rintro _ ⟨⟩; rfl⟩
theorem movMA : Statement (.movMA) := ⟨rfl, by rintro _ ⟨⟩; rfl⟩
theorem mviB (d8 : Byte) : Statement (.mviB d8) := ⟨rfl, by rintro _ ⟨⟩; rfl⟩
theorem mviC (d8 : Byte) : Statement (.mviC d8) := ⟨rfl, by rintro _ ⟨⟩; rfl⟩
theorem mviD (d8 : Byte) : Statement (.mviD d8) := ⟨rfl, by rintro _ ⟨⟩; rfl⟩
theorem mviE (d8 : Byte) : Statement (.mviE d8) := ⟨rfl, by rintro _ ⟨⟩; rfl⟩
theorem mviH (d8 : Byte) : Statement (.mviH d8) := ⟨rfl, by rintro _ ⟨⟩; rfl⟩
theorem mviL (d8 : Byte) : Statement (.mviL d8) := ⟨rfl, by rintro _ ⟨⟩; rfl⟩
theorem mviA (d8 : Byte) : Statement (.mviA d8) := ⟨rfl, by rintro _ ⟨⟩; rfl⟩
theorem mviM (d8 : Byte) : Statement (.mviM d8) := ⟨rfl, by rintro _ ⟨⟩; rfl⟩
theorem lda (addr16 : Word) : Statement (.lda addr16) := ⟨rfl, by rintro _ ⟨⟩; rfl⟩
theorem ldaxB : Statement (.ldaxB) := ⟨rfl, by rintro _ ⟨⟩; rfl⟩
theorem ldaxD : Statement (.ldaxD) := ⟨rfl, by rintro _ ⟨⟩; rfl⟩
theorem lxiB (d16 : Word) : Statement (.lxiB d16) := ⟨rfl, by rintro _ ⟨⟩; rfl⟩
theorem lxiD (d16 : Word) : Statement (.lxiD d16) := ⟨rfl, by rintro _ ⟨⟩; rfl⟩
theorem lxiH (d16 : Word) : Statement (.lxiH d16) := ⟨rfl, by rintro _ ⟨⟩; rfl⟩
theorem lxiSP (d16 : Word) : Statement (.lxiSP d16) := ⟨rfl, by rintro _ ⟨⟩; rfl⟩
theorem lhld (addr16 : Word) : Statement (.lhld addr16) := ⟨rfl, by rintro _ ⟨⟩; rfl⟩
theorem sta (addr16 : Word) : Statement (.sta addr16) := ⟨rfl, by rintro _ ⟨⟩; rfl⟩
theorem staxB : Statement (.staxB) := ⟨rfl, by rintro _ ⟨⟩; rfl⟩
theorem staxD : Statement (.staxD) := ⟨rfl, by rintro _ ⟨⟩; rfl⟩
theorem shld (addr16 : Word) : Statement (.shld addr16) := ⟨rfl, by rintro _ ⟨⟩; rfl⟩
theorem sphl : Statement (.sphl) := ⟨rfl, by rintro _ ⟨⟩; rfl⟩
theorem xchg : Statement (.xchg) := ⟨rfl, by rintro _ ⟨⟩; rfl⟩
theorem xthl : Statement (.xthl) := ⟨rfl, by rintro _ ⟨⟩; rfl⟩
theorem pushB : Statement (.pushB) := ⟨rfl, by rintro _ ⟨⟩; rfl⟩
theorem pushD : Statement (.pushD) := ⟨rfl, by rintro _ ⟨⟩; rfl⟩
theorem pushH : Statement (.pushH) := ⟨rfl, by rintro _ ⟨⟩; rfl⟩
theorem pushPSW : Statement (.pushPSW) := ⟨rfl, by rintro _ ⟨⟩; rfl⟩
theorem popB : Statement (.popB) := ⟨rfl, by rintro _ ⟨⟩; rfl⟩
theorem popD : Statement (.popD) := ⟨rfl, by rintro _ ⟨⟩; rfl⟩
theorem popH : Statement (.popH) := ⟨rfl, by rintro _ ⟨⟩; rfl⟩
theorem popPSW : Statement (.popPSW) := ⟨rfl, by rintro _ ⟨⟩; rfl⟩
theorem outPort (port8 : Byte) : Statement (.outPort port8) := ⟨rfl, by rintro _ ⟨⟩; rfl⟩
theorem inPort (port8 : Byte) : Statement (.inPort port8) := ⟨rfl, by rintro _ ⟨⟩; rfl⟩
theorem addB : Statement (.addB) := ⟨rfl, by rintro _ ⟨⟩; rfl⟩
theorem addC : Statement (.addC) := ⟨rfl, by rintro _ ⟨⟩; rfl⟩
theorem addD : Statement (.addD) := ⟨rfl, by rintro _ ⟨⟩; rfl⟩
theorem addE : Statement (.addE) := ⟨rfl, by rintro _ ⟨⟩; rfl⟩
theorem addH : Statement (.addH) := ⟨rfl, by rintro _ ⟨⟩; rfl⟩
theorem addL : Statement (.addL) := ⟨rfl, by rintro _ ⟨⟩; rfl⟩
theorem addA : Statement (.addA) := ⟨rfl, by rintro _ ⟨⟩; rfl⟩
theorem addM : Statement (.addM) := ⟨rfl, by rintro _ ⟨⟩; rfl⟩
theorem adi (d8 : Byte) : Statement (.adi d8) := ⟨rfl, by rintro _ ⟨⟩; rfl⟩
theorem adcB : Statement (.adcB) := ⟨rfl, by rintro _ ⟨⟩; rfl⟩
theorem adcC : Statement (.adcC) := ⟨rfl, by rintro _ ⟨⟩; rfl⟩
theorem adcD : Statement (.adcD) := ⟨rfl, by rintro _ ⟨⟩; rfl⟩
theorem adcE : Statement (.adcE) := ⟨rfl, by rintro _ ⟨⟩; rfl⟩
theorem adcH : Statement (.adcH) := ⟨rfl, by rintro _ ⟨⟩; rfl⟩
theorem adcL : Statement (.adcL) := ⟨rfl, by rintro _ ⟨⟩; rfl⟩
theorem adcA : Statement (.adcA) := ⟨rfl, by rintro _ ⟨⟩; rfl⟩
theorem adcM : Statement (.adcM) := ⟨rfl, by rintro _ ⟨⟩; rfl⟩
theorem aci (d8 : Byte) : Statement (.aci d8) := ⟨rfl, by rintro _ ⟨⟩; rfl⟩
theorem daa : Statement (.daa) := ⟨rfl, by rintro _ ⟨⟩; rfl⟩
theorem dadB : Statement (.dadB) := ⟨rfl, by rintro _ ⟨⟩; rfl⟩
theorem dadD : Statement (.dadD) := ⟨rfl, by rintro _ ⟨⟩; rfl⟩
theorem dadH : Statement (.dadH) := ⟨rfl, by rintro _ ⟨⟩; rfl⟩
theorem dadSP : Statement (.dadSP) := ⟨rfl, by rintro _ ⟨⟩; rfl⟩
theorem subB : Statement (.subB) := ⟨rfl, by rintro _ ⟨⟩; rfl⟩
theorem subC : Statement (.subC) := ⟨rfl, by rintro _ ⟨⟩; rfl⟩
theorem subD : Statement (.subD) := ⟨rfl, by rintro _ ⟨⟩; rfl⟩
theorem subE : Statement (.subE) := ⟨rfl, by rintro _ ⟨⟩; rfl⟩
theorem subH : Statement (.subH) := ⟨rfl, by rintro _ ⟨⟩; rfl⟩
theorem subL : Statement (.subL) := ⟨rfl, by rintro _ ⟨⟩; rfl⟩
theorem subA : Statement (.subA) := ⟨rfl, by rintro _ ⟨⟩; rfl⟩
theorem subM : Statement (.subM) := ⟨rfl, by rintro _ ⟨⟩; rfl⟩
theorem sui (d8 : Byte) : Statement (.sui d8) := ⟨rfl, by rintro _ ⟨⟩; rfl⟩
theorem sbbB : Statement (.sbbB) := ⟨rfl, by rintro _ ⟨⟩; rfl⟩
theorem sbbC : Statement (.sbbC) := ⟨rfl, by rintro _ ⟨⟩; rfl⟩
theorem sbbD : Statement (.sbbD) := ⟨rfl, by rintro _ ⟨⟩; rfl⟩
theorem sbbE : Statement (.sbbE) := ⟨rfl, by rintro _ ⟨⟩; rfl⟩
theorem sbbH : Statement (.sbbH) := ⟨rfl, by rintro _ ⟨⟩; rfl⟩
theorem sbbL : Statement (.sbbL) := ⟨rfl, by rintro _ ⟨⟩; rfl⟩
theorem sbbA : Statement (.sbbA) := ⟨rfl, by rintro _ ⟨⟩; rfl⟩
theorem sbbM : Statement (.sbbM) := ⟨rfl, by rintro _ ⟨⟩; rfl⟩
theorem sbi (d8 : Byte) : Statement (.sbi d8) := ⟨rfl, by rintro _ ⟨⟩; rfl⟩
theorem inrB : Statement (.inrB) := ⟨rfl, by rintro _ ⟨⟩; rfl⟩
theorem inrC : Statement (.inrC) := ⟨rfl, by rintro _ ⟨⟩; rfl⟩
theorem inrD : Statement (.inrD) := ⟨rfl, by rintro _ ⟨⟩; rfl⟩
theorem inrE : Statement (.inrE) := ⟨rfl, by rintro _ ⟨⟩; rfl⟩
theorem inrH : Statement (.inrH) := ⟨rfl, by rintro _ ⟨⟩; rfl⟩
theorem inrL : Statement (.inrL) := ⟨rfl, by rintro _ ⟨⟩; rfl⟩
theorem inrA : Statement (.inrA) := ⟨rfl, by rintro _ ⟨⟩; rfl⟩
theorem inrM : Statement (.inrM) := ⟨rfl, by rintro _ ⟨⟩; rfl⟩
theorem inxB : Statement (.inxB) := ⟨rfl, by rintro _ ⟨⟩; rfl⟩
theorem inxD : Statement (.inxD) := ⟨rfl, by rintro _ ⟨⟩; rfl⟩
theorem inxH : Statement (.inxH) := ⟨rfl, by rintro _ ⟨⟩; rfl⟩
theorem inxSP : Statement (.inxSP) := ⟨rfl, by rintro _ ⟨⟩; rfl⟩
theorem dcrB : Statement (.dcrB) := ⟨rfl, by rintro _ ⟨⟩; rfl⟩
theorem dcrC : Statement (.dcrC) := ⟨rfl, by rintro _ ⟨⟩; rfl⟩
theorem dcrD : Statement (.dcrD) := ⟨rfl, by rintro _ ⟨⟩; rfl⟩
theorem dcrE : Statement (.dcrE) := ⟨rfl, by rintro _ ⟨⟩; rfl⟩
theorem dcrH : Statement (.dcrH) := ⟨rfl, by rintro _ ⟨⟩; rfl⟩
theorem dcrL : Statement (.dcrL) := ⟨rfl, by rintro _ ⟨⟩; rfl⟩
theorem dcrA : Statement (.dcrA) := ⟨rfl, by rintro _ ⟨⟩; rfl⟩
theorem dcrM : Statement (.dcrM) := ⟨rfl, by rintro _ ⟨⟩; rfl⟩
theorem dcxB : Statement (.dcxB) := ⟨rfl, by rintro _ ⟨⟩; rfl⟩
theorem dcxD : Statement (.dcxD) := ⟨rfl, by rintro _ ⟨⟩; rfl⟩
theorem dcxH : Statement (.dcxH) := ⟨rfl, by rintro _ ⟨⟩; rfl⟩
theorem dcxSP : Statement (.dcxSP) := ⟨rfl, by rintro _ ⟨⟩; rfl⟩
theorem anaB : Statement (.anaB) := ⟨rfl, by rintro _ ⟨⟩; rfl⟩
theorem anaC : Statement (.anaC) := ⟨rfl, by rintro _ ⟨⟩; rfl⟩
theorem anaD : Statement (.anaD) := ⟨rfl, by rintro _ ⟨⟩; rfl⟩
theorem anaE : Statement (.anaE) := ⟨rfl, by rintro _ ⟨⟩; rfl⟩
theorem anaH : Statement (.anaH) := ⟨rfl, by rintro _ ⟨⟩; rfl⟩
theorem anaL : Statement (.anaL) := ⟨rfl, by rintro _ ⟨⟩; rfl⟩
theorem anaA : Statement (.anaA) := ⟨rfl, by rintro _ ⟨⟩; rfl⟩
theorem anaM : Statement (.anaM) := ⟨rfl, by rintro _ ⟨⟩; rfl⟩
theorem ani (d8 : Byte) : Statement (.ani d8) := ⟨rfl, by rintro _ ⟨⟩; rfl⟩
theorem oraB : Statement (.oraB) := ⟨rfl, by rintro _ ⟨⟩; rfl⟩
theorem oraC : Statement (.oraC) := ⟨rfl, by rintro _ ⟨⟩; rfl⟩
theorem oraD : Statement (.oraD) := ⟨rfl, by rintro _ ⟨⟩; rfl⟩
theorem oraE : Statement (.oraE) := ⟨rfl, by rintro _ ⟨⟩; rfl⟩
theorem oraH : Statement (.oraH) := ⟨rfl, by rintro _ ⟨⟩; rfl⟩
theorem oraL : Statement (.oraL) := ⟨rfl, by rintro _ ⟨⟩; rfl⟩
theorem oraA : Statement (.oraA) := ⟨rfl, by rintro _ ⟨⟩; rfl⟩
theorem oraM : Statement (.oraM) := ⟨rfl, by rintro _ ⟨⟩; rfl⟩
theorem ori (d8 : Byte) : Statement (.ori d8) := ⟨rfl, by rintro _ ⟨⟩; rfl⟩
theorem xraB : Statement (.xraB) := ⟨rfl, by rintro _ ⟨⟩; rfl⟩
theorem xraC : Statement (.xraC) := ⟨rfl, by rintro _ ⟨⟩; rfl⟩
theorem xraD : Statement (.xraD) := ⟨rfl, by rintro _ ⟨⟩; rfl⟩
theorem xraE : Statement (.xraE) := ⟨rfl, by rintro _ ⟨⟩; rfl⟩
theorem xraH : Statement (.xraH) := ⟨rfl, by rintro _ ⟨⟩; rfl⟩
theorem xraL : Statement (.xraL) := ⟨rfl, by rintro _ ⟨⟩; rfl⟩
theorem xraA : Statement (.xraA) := ⟨rfl, by rintro _ ⟨⟩; rfl⟩
theorem xraM : Statement (.xraM) := ⟨rfl, by rintro _ ⟨⟩; rfl⟩
theorem xri (d8 : Byte) : Statement (.xri d8) := ⟨rfl, by rintro _ ⟨⟩; rfl⟩
theorem cmpB : Statement (.cmpB) := ⟨rfl, by rintro _ ⟨⟩; rfl⟩
theorem cmpC : Statement (.cmpC) := ⟨rfl, by rintro _ ⟨⟩; rfl⟩
theorem cmpD : Statement (.cmpD) := ⟨rfl, by rintro _ ⟨⟩; rfl⟩
theorem cmpE : Statement (.cmpE) := ⟨rfl, by rintro _ ⟨⟩; rfl⟩
theorem cmpH : Statement (.cmpH) := ⟨rfl, by rintro _ ⟨⟩; rfl⟩
theorem cmpL : Statement (.cmpL) := ⟨rfl, by rintro _ ⟨⟩; rfl⟩
theorem cmpA : Statement (.cmpA) := ⟨rfl, by rintro _ ⟨⟩; rfl⟩
theorem cmpM : Statement (.cmpM) := ⟨rfl, by rintro _ ⟨⟩; rfl⟩
theorem cpi (d8 : Byte) : Statement (.cpi d8) := ⟨rfl, by rintro _ ⟨⟩; rfl⟩
theorem cma : Statement (.cma) := ⟨rfl, by rintro _ ⟨⟩; rfl⟩
theorem cmc : Statement (.cmc) := ⟨rfl, by rintro _ ⟨⟩; rfl⟩
theorem stc : Statement (.stc) := ⟨rfl, by rintro _ ⟨⟩; rfl⟩
theorem rlc : Statement (.rlc) := ⟨rfl, by rintro _ ⟨⟩; rfl⟩
theorem ral : Statement (.ral) := ⟨rfl, by rintro _ ⟨⟩; rfl⟩
theorem rrc : Statement (.rrc) := ⟨rfl, by rintro _ ⟨⟩; rfl⟩
theorem rar : Statement (.rar) := ⟨rfl, by rintro _ ⟨⟩; rfl⟩
theorem jmp (addr16 : Word) : Statement (.jmp addr16) := ⟨rfl, by rintro _ ⟨⟩; rfl⟩
theorem jnz (addr16 : Word) : Statement (.jnz addr16) := ⟨rfl, by rintro _ ⟨⟩; rfl⟩
theorem jz (addr16 : Word) : Statement (.jz addr16) := ⟨rfl, by rintro _ ⟨⟩; rfl⟩
theorem jnc (addr16 : Word) : Statement (.jnc addr16) := ⟨rfl, by rintro _ ⟨⟩; rfl⟩
theorem jc (addr16 : Word) : Statement (.jc addr16) := ⟨rfl, by rintro _ ⟨⟩; rfl⟩
theorem jpo (addr16 : Word) : Statement (.jpo addr16) := ⟨rfl, by rintro _ ⟨⟩; rfl⟩
theorem jpe (addr16 : Word) : Statement (.jpe addr16) := ⟨rfl, by rintro _ ⟨⟩; rfl⟩
theorem jp (addr16 : Word) : Statement (.jp addr16) := ⟨rfl, by rintro _ ⟨⟩; rfl⟩
theorem jm (addr16 : Word) : Statement (.jm addr16) := ⟨rfl, by rintro _ ⟨⟩; rfl⟩
theorem call (addr16 : Word) : Statement (.call addr16) := ⟨rfl, by rintro _ ⟨⟩; rfl⟩
theorem cnz (addr16 : Word) : Statement (.cnz addr16) := ⟨rfl, by rintro _ ⟨⟩; rfl⟩
theorem cz (addr16 : Word) : Statement (.cz addr16) := ⟨rfl, by rintro _ ⟨⟩; rfl⟩
theorem cnc (addr16 : Word) : Statement (.cnc addr16) := ⟨rfl, by rintro _ ⟨⟩; rfl⟩
theorem cc (addr16 : Word) : Statement (.cc addr16) := ⟨rfl, by rintro _ ⟨⟩; rfl⟩
theorem cpo (addr16 : Word) : Statement (.cpo addr16) := ⟨rfl, by rintro _ ⟨⟩; rfl⟩
theorem cpe (addr16 : Word) : Statement (.cpe addr16) := ⟨rfl, by rintro _ ⟨⟩; rfl⟩
theorem cp (addr16 : Word) : Statement (.cp addr16) := ⟨rfl, by rintro _ ⟨⟩; rfl⟩
theorem cm (addr16 : Word) : Statement (.cm addr16) := ⟨rfl, by rintro _ ⟨⟩; rfl⟩
theorem ret : Statement (.ret) := ⟨rfl, by rintro _ ⟨⟩; rfl⟩
theorem rnz : Statement (.rnz) := ⟨rfl, by rintro _ ⟨⟩; rfl⟩
theorem rz : Statement (.rz) := ⟨rfl, by rintro _ ⟨⟩; rfl⟩
theorem rnc : Statement (.rnc) := ⟨rfl, by rintro _ ⟨⟩; rfl⟩
theorem rc : Statement (.rc) := ⟨rfl, by rintro _ ⟨⟩; rfl⟩
theorem rpo : Statement (.rpo) := ⟨rfl, by rintro _ ⟨⟩; rfl⟩
theorem rpe : Statement (.rpe) := ⟨rfl, by rintro _ ⟨⟩; rfl⟩
theorem rp : Statement (.rp) := ⟨rfl, by rintro _ ⟨⟩; rfl⟩
theorem rm : Statement (.rm) := ⟨rfl, by rintro _ ⟨⟩; rfl⟩
theorem rst0 : Statement (.rst0) := ⟨rfl, by rintro _ ⟨⟩; rfl⟩
theorem rst1 : Statement (.rst1) := ⟨rfl, by rintro _ ⟨⟩; rfl⟩
theorem rst2 : Statement (.rst2) := ⟨rfl, by rintro _ ⟨⟩; rfl⟩
theorem rst3 : Statement (.rst3) := ⟨rfl, by rintro _ ⟨⟩; rfl⟩
theorem rst4 : Statement (.rst4) := ⟨rfl, by rintro _ ⟨⟩; rfl⟩
theorem rst5 : Statement (.rst5) := ⟨rfl, by rintro _ ⟨⟩; rfl⟩
theorem rst6 : Statement (.rst6) := ⟨rfl, by rintro _ ⟨⟩; rfl⟩
theorem rst7 : Statement (.rst7) := ⟨rfl, by rintro _ ⟨⟩; rfl⟩
theorem pchl : Statement (.pchl) := ⟨rfl, by rintro _ ⟨⟩; rfl⟩
theorem di : Statement (.di) := ⟨rfl, by rintro _ ⟨⟩; rfl⟩
theorem ei : Statement (.ei) := ⟨rfl, by rintro _ ⟨⟩; rfl⟩
theorem sim : Statement (.sim) := ⟨rfl, by rintro _ ⟨⟩; rfl⟩
theorem rim : Statement (.rim) := ⟨rfl, by rintro _ ⟨⟩; rfl⟩
theorem hlt : Statement (.hlt) := ⟨rfl, by rintro _ ⟨⟩; rfl⟩
theorem nop : Statement (.nop) := ⟨rfl, by rintro _ ⟨⟩; rfl⟩
theorem undefined (opcode : Byte) : Statement (.undefined opcode) := ⟨rfl, by rintro _ ⟨⟩⟩

end Sys2Proof.Laws.FormView
end

