-- ==== Sys2Proof/Laws/Timing.lean ====
section
/-! SUPPORT. The two tables of timing agree: the T-states of a form (70_reset_and_hazards.md R334) are those of its machine
cycles together (R335). -/

namespace Sys2Proof.Machine
open Sys2Proof

/-- The T-states of every form are the sum over its machine cycles, whether or not its condition holds. -/
theorem tStates_eq_sum_cycles (f : Form) (taken : Bool) :
    tStates f taken = ((cycles f taken).map (Cycle.states f)).sum := by
  cases f <;> cases taken <;> first | rfl | (rename_i x; cases x <;> rfl) | (rename_i x _; cases x <;> rfl)

/-- The machine cycles of every form but an undefined byte begin with the one opcode fetch and hold
no other. -/
theorem cycles_begin_with_fetch (f : Form) (taken : Bool) (h : ∀ op, f ≠ .undefined op) :
    ∃ c rest, cycles f taken = c :: rest ∧ (c = .fetch4 ∨ c = .fetch6) ∧
      ∀ d ∈ rest, d ≠ .fetch4 ∧ d ≠ .fetch6 := by
  cases f <;> cases taken <;>
    first
    | exact absurd rfl (h _)
    | exact ⟨_, _, rfl, by decide, by decide⟩
    | (rename_i x; cases x <;> exact ⟨_, _, rfl, by decide, by decide⟩)
    | (rename_i x _; cases x <;> exact ⟨_, _, rfl, by decide, by decide⟩)

end Sys2Proof.Machine
end

