-- ==== Sys2Proof/Tests/Slice0.lean ====
section
/-! SUPPORT. Tests: ill-formed terms refused, every opcode byte of spec/opcode_table.json decoded, the worked examples and
vectors of 95_test_vectors.md (named E<n> for Part 1 and by section for Part 2) as single steps, and for every statement
with hypotheses a state that meets them. Expected values are the spec's, not the model's. -/

namespace Sys2Proof.Tests
open Sys2Proof Sys2Proof.Machine

/-! ## Helpers -/

/-- Bytes placed from an address up. -/
def place (s : State) (a : Word) : List Byte → State
  | [] => s
  | v :: vs => place (s.plant a v) (a + 1) vs

/-- An instruction at 2000H on a machine out of reset, the stack at 2100H. -/
def running (code : List Byte) : State := place ((State.reset.setPc 0x2000).setSp 0x2100) 0x2000 code

/-- The flags as the vectors write them: CF AF ZF SF PF. -/
def fl (cf af zf sf pf : Nat) : Flags := ⟨cf == 1, af == 1, zf == 1, sf == 1, pf == 1⟩

/-- HL set to an address. -/
def atHL (s : State) (a : Word) : State := s.setPair .hl a

/-- A carry flag of 1. -/
def carry (s : State) : State := s.setCF true

/-- The step answers a next state with that property. -/
def gives (s : State) (p : State → Bool) : Bool :=
  match step s with
  | .next t => p t
  | .fault _ => false
  | .refused _ => false

/-- The step ends in that refusal. -/
def refuses (s : State) (r : Refusal) : Bool :=
  match step s with
  | .next _ => false
  | .fault _ => false
  | .refused q => q == r

/-- After the step A and the flags are as given. -/
def leaves (s : State) (a : Byte) (f : Flags) : Bool := gives s fun t => t.reg .a == a && t.flags == f

/-! ## Well-formedness -/

/-- Byte 00 is NOP's, so `undefined 00` is ill-formed. -/
theorem test_undefined_nop_refused : (Instr.undefined 0x00).wellFormed = false := by decide

/-- Byte 76 is HLT's. -/
theorem test_undefined_hlt_refused : (Instr.undefined 0x76).wellFormed = false := by decide

set_option maxRecDepth 4000 in
/-- Exactly ten byte values are legal (R99). -/
theorem test_undefined_count :
    ((List.range 256).countP fun n => (Instr.undefined (BitVec.ofNat 8 n)).wellFormed) = 10 := by decide

/-! ## Decoding: every row of spec/opcode_table.json, with 34H and 56H as the bytes that follow -/

/-- Each first byte, followed by 34H 56H, decodes to the instruction beside it. -/
def decodes (rows : List (Nat × Instr)) : Bool :=
  rows.all fun row => decodeTableWord 24 (0x563400 + row.1) == some row.2

theorem test_decode_row_0 : decodes
    [(0x00, .nop), (0x01, .lxiB 0x5634), (0x02, .staxB), (0x03, .inxB), (0x04, .inrB), (0x05, .dcrB), (0x06, .mviB 0x34),
   (0x07, .rlc), (0x08, .undefined 0x08), (0x09, .dadB), (0x0A, .ldaxB), (0x0B, .dcxB), (0x0C, .inrC), (0x0D, .dcrC),
   (0x0E, .mviC 0x34), (0x0F, .rrc)] = true := by decide

theorem test_decode_row_1 : decodes
    [(0x10, .undefined 0x10), (0x11, .lxiD 0x5634), (0x12, .staxD), (0x13, .inxD), (0x14, .inrD), (0x15, .dcrD),
   (0x16, .mviD 0x34), (0x17, .ral), (0x18, .undefined 0x18), (0x19, .dadD), (0x1A, .ldaxD), (0x1B, .dcxD),
   (0x1C, .inrE), (0x1D, .dcrE), (0x1E, .mviE 0x34), (0x1F, .rar)] = true := by decide

theorem test_decode_row_2 : decodes
    [(0x20, .rim), (0x21, .lxiH 0x5634), (0x22, .shld 0x5634), (0x23, .inxH), (0x24, .inrH), (0x25, .dcrH),
   (0x26, .mviH 0x34), (0x27, .daa), (0x28, .undefined 0x28), (0x29, .dadH), (0x2A, .lhld 0x5634), (0x2B, .dcxH),
   (0x2C, .inrL), (0x2D, .dcrL), (0x2E, .mviL 0x34), (0x2F, .cma)] = true := by decide

theorem test_decode_row_3 : decodes
    [(0x30, .sim), (0x31, .lxiSP 0x5634), (0x32, .sta 0x5634), (0x33, .inxSP), (0x34, .inrM), (0x35, .dcrM),
   (0x36, .mviM 0x34), (0x37, .stc), (0x38, .undefined 0x38), (0x39, .dadSP), (0x3A, .lda 0x5634), (0x3B, .dcxSP),
   (0x3C, .inrA), (0x3D, .dcrA), (0x3E, .mviA 0x34), (0x3F, .cmc)] = true := by decide

theorem test_decode_row_4 : decodes
    [(0x40, .movBB), (0x41, .movBC), (0x42, .movBD), (0x43, .movBE), (0x44, .movBH), (0x45, .movBL), (0x46, .movBM),
   (0x47, .movBA), (0x48, .movCB), (0x49, .movCC), (0x4A, .movCD), (0x4B, .movCE), (0x4C, .movCH), (0x4D, .movCL),
   (0x4E, .movCM), (0x4F, .movCA)] = true := by decide

theorem test_decode_row_5 : decodes
    [(0x50, .movDB), (0x51, .movDC), (0x52, .movDD), (0x53, .movDE), (0x54, .movDH), (0x55, .movDL), (0x56, .movDM),
   (0x57, .movDA), (0x58, .movEB), (0x59, .movEC), (0x5A, .movED), (0x5B, .movEE), (0x5C, .movEH), (0x5D, .movEL),
   (0x5E, .movEM), (0x5F, .movEA)] = true := by decide

theorem test_decode_row_6 : decodes
    [(0x60, .movHB), (0x61, .movHC), (0x62, .movHD), (0x63, .movHE), (0x64, .movHH), (0x65, .movHL), (0x66, .movHM),
   (0x67, .movHA), (0x68, .movLB), (0x69, .movLC), (0x6A, .movLD), (0x6B, .movLE), (0x6C, .movLH), (0x6D, .movLL),
   (0x6E, .movLM), (0x6F, .movLA)] = true := by decide

theorem test_decode_row_7 : decodes
    [(0x70, .movMB), (0x71, .movMC), (0x72, .movMD), (0x73, .movME), (0x74, .movMH), (0x75, .movML), (0x76, .hlt),
   (0x77, .movMA), (0x78, .movAB), (0x79, .movAC), (0x7A, .movAD), (0x7B, .movAE), (0x7C, .movAH), (0x7D, .movAL),
   (0x7E, .movAM), (0x7F, .movAA)] = true := by decide

theorem test_decode_row_8 : decodes
    [(0x80, .addB), (0x81, .addC), (0x82, .addD), (0x83, .addE), (0x84, .addH), (0x85, .addL), (0x86, .addM),
   (0x87, .addA), (0x88, .adcB), (0x89, .adcC), (0x8A, .adcD), (0x8B, .adcE), (0x8C, .adcH), (0x8D, .adcL),
   (0x8E, .adcM), (0x8F, .adcA)] = true := by decide

theorem test_decode_row_9 : decodes
    [(0x90, .subB), (0x91, .subC), (0x92, .subD), (0x93, .subE), (0x94, .subH), (0x95, .subL), (0x96, .subM),
   (0x97, .subA), (0x98, .sbbB), (0x99, .sbbC), (0x9A, .sbbD), (0x9B, .sbbE), (0x9C, .sbbH), (0x9D, .sbbL),
   (0x9E, .sbbM), (0x9F, .sbbA)] = true := by decide

theorem test_decode_row_A : decodes
    [(0xA0, .anaB), (0xA1, .anaC), (0xA2, .anaD), (0xA3, .anaE), (0xA4, .anaH), (0xA5, .anaL), (0xA6, .anaM),
   (0xA7, .anaA), (0xA8, .xraB), (0xA9, .xraC), (0xAA, .xraD), (0xAB, .xraE), (0xAC, .xraH), (0xAD, .xraL),
   (0xAE, .xraM), (0xAF, .xraA)] = true := by decide

theorem test_decode_row_B : decodes
    [(0xB0, .oraB), (0xB1, .oraC), (0xB2, .oraD), (0xB3, .oraE), (0xB4, .oraH), (0xB5, .oraL), (0xB6, .oraM),
   (0xB7, .oraA), (0xB8, .cmpB), (0xB9, .cmpC), (0xBA, .cmpD), (0xBB, .cmpE), (0xBC, .cmpH), (0xBD, .cmpL),
   (0xBE, .cmpM), (0xBF, .cmpA)] = true := by decide

theorem test_decode_row_C : decodes
    [(0xC0, .rnz), (0xC1, .popB), (0xC2, .jnz 0x5634), (0xC3, .jmp 0x5634), (0xC4, .cnz 0x5634), (0xC5, .pushB),
   (0xC6, .adi 0x34), (0xC7, .rst0), (0xC8, .rz), (0xC9, .ret), (0xCA, .jz 0x5634), (0xCB, .undefined 0xCB),
   (0xCC, .cz 0x5634), (0xCD, .call 0x5634), (0xCE, .aci 0x34), (0xCF, .rst1)] = true := by decide

theorem test_decode_row_D : decodes
    [(0xD0, .rnc), (0xD1, .popD), (0xD2, .jnc 0x5634), (0xD3, .outPort 0x34), (0xD4, .cnc 0x5634), (0xD5, .pushD),
   (0xD6, .sui 0x34), (0xD7, .rst2), (0xD8, .rc), (0xD9, .undefined 0xD9), (0xDA, .jc 0x5634), (0xDB, .inPort 0x34),
   (0xDC, .cc 0x5634), (0xDD, .undefined 0xDD), (0xDE, .sbi 0x34), (0xDF, .rst3)] = true := by decide

theorem test_decode_row_E : decodes
    [(0xE0, .rpo), (0xE1, .popH), (0xE2, .jpo 0x5634), (0xE3, .xthl), (0xE4, .cpo 0x5634), (0xE5, .pushH),
   (0xE6, .ani 0x34), (0xE7, .rst4), (0xE8, .rpe), (0xE9, .pchl), (0xEA, .jpe 0x5634), (0xEB, .xchg),
   (0xEC, .cpe 0x5634), (0xED, .undefined 0xED), (0xEE, .xri 0x34), (0xEF, .rst5)] = true := by decide

theorem test_decode_row_F : decodes
    [(0xF0, .rp), (0xF1, .popPSW), (0xF2, .jp 0x5634), (0xF3, .di), (0xF4, .cp 0x5634), (0xF5, .pushPSW),
   (0xF6, .ori 0x34), (0xF7, .rst6), (0xF8, .rm), (0xF9, .sphl), (0xFA, .jm 0x5634), (0xFB, .ei), (0xFC, .cm 0x5634),
   (0xFD, .undefined 0xFD), (0xFE, .cpi 0x34), (0xFF, .rst7)] = true := by decide

/-- Too few bytes are no instruction. -/
theorem test_decode_short : decode [] = .error .noOpcode ∧ decode [0x3E] = .error .missingByte2 ∧
    decode [0xC3, 0x50] = .error .missingByte3 := ⟨rfl, rfl, rfl⟩

/-- With the table's bits alone the operand bytes are zeros. -/
theorem test_decode_table_bits : decodeTableWord 8 0x3A = some (.lda 0x0000) ∧
    decodeTableWord 16 0xE736 = some (.mviM 0xE7) := ⟨rfl, rfl⟩

/-- E4's bytes: 3A 5D 20 is LDA 205DH. -/
theorem test_encode_lda : encode (.lda 0x205D) = [0x3A, 0x5D, 0x20] := by decide

/-! ## Group I (2.2) -/

theorem test_MOV_A_B : gives ((running [0x78]).setReg .b 0x3C)
    (fun t => t.reg .a == 0x3C && t.pc == 0x2001 && t.flags == fl 0 0 0 0 0) = true := by decide
/-- E1. -/
theorem test_MOV_A_M : gives (atHL ((place (running [0x7E]) 0xC05A [0x12]).setReg .a 0x54) 0xC05A)
    (fun t => t.reg .a == 0x12 && t.hl == 0xC05A) = true := by decide
theorem test_MOV_H_M : gives (atHL (place (running [0x66]) 0x2050 [0x30]) 0x2050)
    (fun t => t.hl == 0x3050) = true := by decide
/-- E2. -/
theorem test_MOV_M_B : gives (atHL ((place (running [0x70]) 0xC250 [0x02, 0x15]).setReg .b 0x74) 0xC250)
    (fun t => t.byteAt 0xC250 == 0x74 && t.byteAt 0xC251 == 0x15) = true := by decide
theorem test_MOV_M_H : gives (atHL (running [0x74]) 0x2150) (fun t => t.byteAt 0x2150 == 0x21) = true := by decide
theorem test_MVI_A : gives (running [0x3E, 0x2A]) (fun t => t.reg .a == 0x2A && t.pc == 0x2002) = true := by decide
/-- E3. -/
theorem test_MVI_M : gives (atHL (place (running [0x36, 0xE7]) 0x205C [0x28, 0x3A]) 0x205C)
    (fun t => t.byteAt 0x205C == 0xE7 && t.byteAt 0x205D == 0x3A) = true := by decide
/-- E4. -/
theorem test_LDA : gives ((place (running [0x3A, 0x5D, 0x20]) 0x205D [0x15, 0x7F]).setReg .a 0xC2)
    (fun t => t.reg .a == 0x15 && t.pc == 0x2003) = true := by decide
theorem test_LDAX_D : gives ((place (running [0x1A]) 0x205D [0x15]).setPair .de 0x205D)
    (fun t => t.reg .a == 0x15) = true := by decide
/-- E6. -/
theorem test_LXI_H : gives (running [0x21, 0x50, 0x10])
    (fun t => t.reg .h == 0x10 && t.reg .l == 0x50 && t.pc == 0x2003) = true := by decide
theorem test_LXI_SP : gives (running [0x31, 0x00, 0x21]) (fun t => t.sp == 0x2100) = true := by decide
/-- E5. -/
theorem test_LHLD : gives (place (running [0x2A, 0x50, 0x10]) 0x1050 [0x6A, 0x3D, 0x09])
    (fun t => t.reg .h == 0x3D && t.reg .l == 0x6A) = true := by decide
theorem test_LHLD_wraps : gives (place (running [0x2A, 0xFF, 0xFF]) 0xFFFF [0x11, 0x22])
    (fun t => t.reg .h == 0x22 && t.reg .l == 0x11) = true := by decide
theorem test_STA : gives ((running [0x32, 0x00, 0x30]).setReg .a 0x99)
    (fun t => t.byteAt 0x3000 == 0x99) = true := by decide
theorem test_STAX_B : gives (((running [0x02]).setReg .a 0x5A).setPair .bc 0x3010)
    (fun t => t.byteAt 0x3010 == 0x5A) = true := by decide
theorem test_SHLD : gives (atHL (running [0x22, 0x50, 0x10]) 0x3D6A)
    (fun t => t.byteAt 0x1050 == 0x6A && t.byteAt 0x1051 == 0x3D) = true := by decide
theorem test_SHLD_wraps : gives (atHL (running [0x22, 0xFF, 0xFF]) 0x2211)
    (fun t => t.byteAt 0xFFFF == 0x11 && t.byteAt 0x0000 == 0x22) = true := by decide
/-- E7. -/
theorem test_SPHL : gives (atHL (running [0xF9]) 0xC015) (fun t => t.sp == 0xC015) = true := by decide
/-- E8. -/
theorem test_XCHG : gives (atHL ((running [0xEB]).setPair .de 0x24C7) 0xA349)
    (fun t => t.pair .de == 0xA349 && t.hl == 0x24C7) = true := by decide
theorem test_XTHL : gives (atHL ((place (running [0xE3]) 0x2051 [0x1A, 0xFD]).setSp 0x2051) 0xA349)
    (fun t => t.hl == 0xFD1A && t.byteAt 0x2051 == 0x49 && t.byteAt 0x2052 == 0xA3 && t.sp == 0x2051) = true := by decide
theorem test_XTHL_wraps : gives (atHL ((place (running [0xE3]) 0xFFFF [0x1A, 0xFD]).setSp 0xFFFF) 0xA349)
    (fun t => t.hl == 0xFD1A && t.byteAt 0xFFFF == 0x49 && t.byteAt 0x0000 == 0xA3) = true := by decide
/-- E9. -/
theorem test_PUSH_B : gives (((running [0xC5]).setPair .bc 0xFD1A).setSp 0x2053)
    (fun t => t.byteAt 0x2052 == 0xFD && t.byteAt 0x2051 == 0x1A && t.sp == 0x2051) = true := by decide
theorem test_PUSH_B_wraps : gives (((running [0xC5]).setPair .bc 0xABCD).setSp 0x0001)
    (fun t => t.byteAt 0x0000 == 0xAB && t.byteAt 0xFFFF == 0xCD && t.sp == 0xFFFF) = true := by decide
theorem test_PUSH_PSW : gives ((((running [0xF5]).setReg .a 0x3B).setFlags (fl 1 0 0 0 0)).setSp 0x2053)
    (fun t => t.mem.map Prod.fst == [0x2000, 0x2051, 0x2052] && t.sp == 0x2051 && t.pc == 0x2001) = true := by decide
/-- The word pushed: A above F, and F & D5 = 01, whatever the three unused bits are. -/
theorem test_PUSH_PSW_word : ∀ u, hi (join 0x3B ((fl 1 0 0 0 0).pack u)) = 0x3B ∧
    lo (join 0x3B ((fl 1 0 0 0 0).pack u)) &&& 0xD5 = 0x01 := by decide
/-- E10. -/
theorem test_POP_D : gives ((place (running [0xD1]) 0x1000 [0x5E, 0xE2]).setSp 0x1000)
    (fun t => t.reg .d == 0xE2 && t.reg .e == 0x5E && t.sp == 0x1002) = true := by decide
theorem test_POP_B_wraps : gives ((place (running [0xC1]) 0xFFFF [0x11, 0x22]).setSp 0xFFFF)
    (fun t => t.pair .bc == 0x2211 && t.sp == 0x0001) = true := by decide
theorem test_POP_PSW : gives ((place (running [0xF1]) 0x2051 [0xD5, 0x80]).setSp 0x2051)
    (fun t => t.reg .a == 0x80 && t.flags == fl 1 1 1 1 1 && t.sp == 0x2053) = true := by decide
theorem test_POP_PSW_drops_unused : gives (((place (running [0xF1]) 0x2051 [0x2A, 0x00]).setFlags (fl 1 1 1 1 1)).setSp 0x2051)
    (fun t => t.reg .a == 0x00 && t.flags == fl 0 0 0 0 0) = true := by decide
theorem test_OUT : gives ((running [0xD3, 0x01]).setReg .a 0x55)
    (fun t => t.trace == [.port 0x01 0x55] && t.pc == 0x2002) = true := by decide
theorem test_IN : gives ((running [0xDB, 0x00]).setFlags (fl 1 0 1 0 1))
    (fun t => t.flags == fl 1 0 1 0 1 && t.draws == 1 && t.pc == 0x2002) = true := by decide

/-! ## Group II (2.3) -/

theorem test_ADD_B : leaves (((running [0x80]).setReg .a 0x3A).setReg .b 0x48) 0x82 (fl 0 1 0 1 1) = true := by decide
theorem test_ADD_A : leaves ((running [0x87]).setReg .a 0x80) 0x00 (fl 1 0 1 0 1) = true := by decide
theorem test_ADD_M : leaves (atHL ((place (running [0x86]) 0x2050 [0xF0]).setReg .a 0x10) 0x2050)
    0x00 (fl 1 0 1 0 1) = true := by decide
theorem test_ADI : leaves ((running [0xC6, 0x06]).setReg .a 0x0A) 0x10 (fl 0 1 0 0 0) = true := by decide
theorem test_ADC_C : leaves (carry (((running [0x89]).setReg .a 0x3D).setReg .c 0x42)) 0x80 (fl 0 1 0 1 0) = true := by decide
theorem test_ADC_C_all_ones : leaves (carry (((running [0x89]).setReg .a 0xFF).setReg .c 0xFF)) 0xFF (fl 1 1 0 1 1) = true := by
  decide
theorem test_ADC_M : leaves (carry (atHL ((place (running [0x8E]) 0x2050 [0xA1]).setReg .a 0x98) 0x2050))
    0x3A (fl 1 0 0 0 1) = true := by decide
theorem test_ACI : leaves (carry ((running [0xCE, 0x00]).setReg .a 0xFF)) 0x00 (fl 1 1 1 0 1) = true := by decide
/-- E11. -/
theorem test_SUB_C : leaves ((((running [0x91]).setReg .a 0xC4).setReg .c 0x89).setFlags (fl 0 0 0 1 0))
    0x3B (fl 0 0 0 0 0) = true := by decide
/-- E12. -/
theorem test_SUB_C_negative : leaves (((running [0x91]).setReg .a 0x89).setReg .c 0xC4) 0xC5 (fl 1 1 0 1 1) = true := by decide
theorem test_SUB_B_zero : leaves (((running [0x90]).setReg .a 0x42).setReg .b 0x00) 0x42 (fl 0 1 0 0 1) = true := by decide
theorem test_SUB_M : leaves (atHL ((place (running [0x96]) 0xC050 [0x7A]).setReg .a 0x25) 0xC050)
    0xAB (fl 1 0 0 1 0) = true := by decide
theorem test_SUI : leaves (running [0xD6, 0x01]) 0xFF (fl 1 0 0 1 1) = true := by decide
theorem test_SBB_C : leaves (carry (((running [0x99]).setReg .a 0x00).setReg .c 0xFF)) 0x00 (fl 1 0 1 0 1) = true := by decide
theorem test_SBB_A : leaves (carry ((running [0x9F]).setReg .a 0x33)) 0xFF (fl 1 0 0 1 1) = true := by decide
theorem test_SBB_M : leaves (carry (atHL ((place (running [0x9E]) 0x2050 [0x4F]).setReg .a 0x50) 0x2050))
    0x00 (fl 0 0 1 0 1) = true := by decide
theorem test_SBI : leaves (carry (running [0xDE, 0x00])) 0xFF (fl 1 0 0 1 1) = true := by decide
theorem test_INR_B : gives (carry ((running [0x04]).setReg .b 0x0F))
    (fun t => t.reg .b == 0x10 && t.flags == fl 1 1 0 0 0) = true := by decide
theorem test_INR_M : gives (atHL (place (running [0x34]) 0x2010 [0xFF]) 0x2010)
    (fun t => t.byteAt 0x2010 == 0x00 && t.flags == fl 0 1 1 0 1) = true := by decide
theorem test_DCR_C : gives (carry (running [0x0D]))
    (fun t => t.reg .c == 0xFF && t.flags == fl 1 0 0 1 1) = true := by decide
/-- E13. -/
theorem test_DCR_M : gives (atHL (place (running [0x35]) 0x2010 [0xFA, 0x02]) 0x2010)
    (fun t => t.byteAt 0x2010 == 0xF9 && t.byteAt 0x2011 == 0x02 && t.flags == fl 0 1 0 1 1) = true := by decide
theorem test_INX_H : gives (atHL (running [0x23]) 0x20FF)
    (fun t => t.hl == 0x2100 && t.flags == fl 0 0 0 0 0) = true := by decide
theorem test_INX_SP : gives ((running [0x33]).setSp 0xFFFF) (fun t => t.sp == 0x0000) = true := by decide
theorem test_DCX_B : gives ((running [0x0B]).setPair .bc 0x2100) (fun t => t.pair .bc == 0x20FF) = true := by decide
theorem test_DCX_H : gives (running [0x2B]) (fun t => t.hl == 0xFFFF && t.flags == fl 0 0 0 0 0) = true := by decide
theorem test_DAD_B : gives (atHL ((running [0x09]).setPair .bc 0xA17B) 0x339F)
    (fun t => t.hl == 0xD51A && t.flags == fl 0 0 0 0 0) = true := by decide
theorem test_DAD_SP : gives (carry ((running [0x39]).setSp 0x20FE))
    (fun t => t.hl == 0x20FE && t.flags == fl 0 0 0 0 0) = true := by decide
theorem test_DAD_H_carries : gives (atHL (running [0x29]) 0x8000)
    (fun t => t.hl == 0x0000 && t.flags == fl 1 0 0 0 0) = true := by decide
theorem test_DAA_step : leaves ((running [0x27]).setReg .a 0xFC) 0x62 (fl 1 1 0 0 0) = true := by decide

/-- A DAA row: A, CF, AF before; A and the flags after. -/
def daaRow (a : Byte) (cf af : Nat) (a' : Byte) (f : Flags) : Bool := daa a (fl cf af 0 0 0) == (a', f)

/-- The DAA table of 2.3. -/
theorem test_DAA_table :
    (daaRow 0x00 0 0 0x00 (fl 0 0 1 0 1) && daaRow 0x09 0 0 0x09 (fl 0 0 0 0 1) && daaRow 0x0A 0 0 0x10 (fl 0 1 0 0 0) &&
      daaRow 0x0F 0 0 0x15 (fl 0 1 0 0 0) && daaRow 0x10 0 1 0x16 (fl 0 0 0 0 0) && daaRow 0x3C 0 0 0x42 (fl 0 1 0 0 1) &&
      daaRow 0x7D 0 0 0x83 (fl 0 1 0 1 0) && daaRow 0x90 0 1 0x96 (fl 0 0 0 1 1) && daaRow 0x99 0 0 0x99 (fl 0 0 0 1 1) &&
      daaRow 0x9A 0 0 0x00 (fl 1 1 1 0 1) && daaRow 0x9F 0 0 0x05 (fl 1 1 0 0 1) && daaRow 0xA0 0 0 0x00 (fl 1 0 1 0 1) &&
      daaRow 0xFC 0 0 0x62 (fl 1 1 0 0 0) && daaRow 0x12 1 0 0x72 (fl 1 0 0 0 1) && daaRow 0x12 1 1 0x78 (fl 1 0 0 0 1) &&
      daaRow 0x60 1 0 0xC0 (fl 1 0 0 1 1) && daaRow 0xFF 1 1 0x65 (fl 1 1 0 0 1)) = true := by decide

/-- The helper table of 2.1. -/
theorem test_add8_sub8 :
    add8 0x3A 0x48 false = ⟨0x82, false, true⟩ ∧ add8 0x00 0xFF true = ⟨0x00, true, true⟩ ∧
    add8 0x10 0xF0 false = ⟨0x00, true, false⟩ ∧ sub8 0x00 0x00 false = ⟨0x00, false, true⟩ ∧
    sub8 0x00 0xFF true = ⟨0x00, true, false⟩ ∧ sub8 0x50 0x4F true = ⟨0x00, false, false⟩ ∧
    sub8 0x04 0x02 true = ⟨0x01, false, true⟩ ∧ sub8 0x25 0x7A false = ⟨0xAB, true, false⟩ := by decide

/-! ## Group III (2.4) -/

theorem test_ANA_E : leaves (((running [0xA3]).setReg .a 0xA7).setReg .e 0x3C) 0x24 (fl 0 1 0 0 1) = true := by decide
theorem test_ANA_M : leaves (atHL ((place (running [0xA6]) 0x2050 [0x0F]).setReg .a 0xF0) 0x2050)
    0x00 (fl 0 1 1 0 1) = true := by decide
theorem test_ANI : leaves (carry ((running [0xE6, 0x0F]).setReg .a 0x9C)) 0x0C (fl 0 1 0 0 1) = true := by decide
theorem test_ORA_C : leaves (((running [0xB1]).setReg .a 0x12).setReg .c 0x81) 0x93 (fl 0 0 0 1 1) = true := by decide
theorem test_ORA_M : leaves (atHL (place (running [0xB6]) 0x2050 [0x00]) 0x2050) 0x00 (fl 0 0 1 0 1) = true := by decide
theorem test_ORI : leaves ((running [0xF6, 0x80]).setReg .a 0x01) 0x81 (fl 0 0 0 1 1) = true := by decide
theorem test_XRA_B : leaves (((running [0xA8]).setReg .a 0xFF).setReg .b 0x0F) 0xF0 (fl 0 0 0 1 1) = true := by decide
theorem test_XRA_A : leaves (((running [0xAF]).setReg .a 0x5C).setFlags (fl 1 1 0 0 0)) 0x00 (fl 0 0 1 0 1) = true := by decide
theorem test_XRA_M : leaves (atHL ((place (running [0xAE]) 0x2050 [0x5A]).setReg .a 0x5A) 0x2050)
    0x00 (fl 0 0 1 0 1) = true := by decide
theorem test_XRI : leaves ((running [0xEE, 0xFF]).setReg .a 0x0F) 0xF0 (fl 0 0 0 1 1) = true := by decide
theorem test_CMP_B_equal : leaves (((running [0xB8]).setReg .a 0x05).setReg .b 0x05) 0x05 (fl 0 1 1 0 1) = true := by decide
theorem test_CMP_B_less : leaves (((running [0xB8]).setReg .a 0x05).setReg .b 0x06) 0x05 (fl 1 0 0 1 1) = true := by decide
/-- E14. -/
theorem test_CMP_M : leaves (atHL ((place (running [0xBE]) 0xC050 [0x7A, 0x10]).setReg .a 0x25) 0xC050)
    0x25 (fl 1 0 0 1 0) = true := by decide
theorem test_CPI : leaves ((running [0xFE, 0x40]).setReg .a 0x3F) 0x3F (fl 1 1 0 1 1) = true := by decide
theorem test_CPI_zero : leaves ((running [0xFE, 0x00]).setReg .a 0x3F) 0x3F (fl 0 1 0 0 1) = true := by decide
theorem test_CMA : leaves ((running [0x2F]).setReg .a 0x51) 0xAE (fl 0 0 0 0 0) = true := by decide
theorem test_CMC : leaves ((running [0x3F]).setFlags (fl 1 1 0 1 0)) 0x00 (fl 0 1 0 1 0) = true := by decide
theorem test_STC : leaves ((running [0x37]).setFlags (fl 0 1 0 1 0)) 0x00 (fl 1 1 0 1 0) = true := by decide
/-- E15. -/
theorem test_RLC : leaves (carry ((running [0x07]).setReg .a 0x32)) 0x64 (fl 0 0 0 0 0) = true := by decide
theorem test_RLC_out : leaves ((running [0x07]).setReg .a 0x80) 0x01 (fl 1 0 0 0 0) = true := by decide
/-- E16. -/
theorem test_RRC : leaves (carry ((running [0x0F]).setReg .a 0x32)) 0x19 (fl 0 0 0 0 0) = true := by decide
theorem test_RRC_out : leaves ((running [0x0F]).setReg .a 0x01) 0x80 (fl 1 0 0 0 0) = true := by decide
/-- E18. -/
theorem test_RAL : leaves (carry ((running [0x17]).setReg .a 0x32)) 0x65 (fl 0 0 0 0 0) = true := by decide
theorem test_RAL_out : leaves ((running [0x17]).setReg .a 0x80) 0x00 (fl 1 0 0 0 0) = true := by decide
/-- E17. -/
theorem test_RAR : leaves (carry ((running [0x1F]).setReg .a 0x32)) 0x99 (fl 0 0 0 0 0) = true := by decide
theorem test_RAR_out : leaves ((running [0x1F]).setReg .a 0x01) 0x00 (fl 1 0 0 0 0) = true := by decide

/-! ## Group IV (2.5) -/

theorem test_JMP : gives (running [0xC3, 0x50, 0x20]) (fun t => t.pc == 0x2050) = true := by decide
theorem test_JMP_fetch_wraps : gives ((place State.reset 0xFFFE [0xC3, 0x34, 0x12]).setPc 0xFFFE)
    (fun t => t.pc == 0x1234) = true := by decide
theorem test_JZ_taken : gives ((running [0xCA, 0x10, 0x20]).setFlags (fl 0 0 1 0 0)) (fun t => t.pc == 0x2010) = true := by
  decide
/-- The third byte is not read: the address behind it is absent. -/
theorem test_JZ_not_taken : gives { running [0xCA, 0x10] with memMap := [⟨0x2002, 0x2002, .absent⟩] }
    (fun t => t.pc == 0x2003) = true := by decide

/-- With these flags, the conditional jump of that byte, to 2010H, is taken, and with those it is not. -/
def jumpsOn (op : Byte) (yes no : Flags) : Bool :=
  gives ((running [op, 0x10, 0x20]).setFlags yes) (fun t => t.pc == 0x2010) &&
    gives ((running [op, 0x10, 0x20]).setFlags no) (fun t => t.pc == 0x2003)

/-- The row of the seven other conditions. -/
theorem test_conditions :
    (jumpsOn 0xC2 (fl 1 1 0 1 1) (fl 0 0 1 0 0) && jumpsOn 0xD2 (fl 0 1 1 1 1) (fl 1 0 0 0 0) &&
      jumpsOn 0xDA (fl 1 0 0 0 0) (fl 0 1 1 1 1) && jumpsOn 0xE2 (fl 1 1 1 1 0) (fl 0 0 0 0 1) &&
      jumpsOn 0xEA (fl 0 0 0 0 1) (fl 1 1 1 1 0) && jumpsOn 0xF2 (fl 1 1 1 0 1) (fl 0 0 0 1 0) &&
      jumpsOn 0xFA (fl 0 0 0 1 0) (fl 1 1 1 0 1)) = true := by decide

theorem test_CALL : gives (running [0xCD, 0x00, 0x30])
    (fun t => t.byteAt 0x20FF == 0x20 && t.byteAt 0x20FE == 0x03 && t.sp == 0x20FE && t.pc == 0x3000) = true := by decide
theorem test_CC_taken : gives (carry (running [0xDC, 0x00, 0x30]))
    (fun t => t.byteAt 0x20FF == 0x20 && t.byteAt 0x20FE == 0x03 && t.sp == 0x20FE && t.pc == 0x3000) = true := by decide
theorem test_CC_not_taken : gives (running [0xDC, 0x00, 0x30]) (fun t => t.pc == 0x2003 && t.sp == 0x2100) = true := by decide
theorem test_RET : gives ((place (running [0xC9]) 0x20FE [0x03, 0x20]).setSp 0x20FE)
    (fun t => t.pc == 0x2003 && t.sp == 0x2100) = true := by decide
theorem test_RZ_taken : gives (((place (running [0xC8]) 0x20FE [0x03, 0x30]).setSp 0x20FE).setFlags (fl 0 0 1 0 0))
    (fun t => t.pc == 0x3003 && t.sp == 0x2100) = true := by decide
theorem test_RZ_not_taken : gives ((running [0xC8]).setSp 0x20FE) (fun t => t.pc == 0x2001 && t.sp == 0x20FE) = true := by
  decide
theorem test_RST_5 : gives (running [0xEF])
    (fun t => t.byteAt 0x20FF == 0x20 && t.byteAt 0x20FE == 0x01 && t.sp == 0x20FE && t.pc == 0x0028) = true := by decide
theorem test_RST_0_keeps_IE : gives ((running [0xC7]).setCtl { Control.reset with ie := true })
    (fun t => t.pc == 0x0000 && t.ctl.ie) = true := by decide
theorem test_RST_7 : gives (running [0xFF]) (fun t => t.pc == 0x0038) = true := by decide
theorem test_PCHL : gives (atHL (running [0xE9]) 0x3000) (fun t => t.pc == 0x3000 && t.hl == 0x3000) = true := by decide

/-! ## Group V (2.6) and undefined bytes (2.7) -/

/-- Control cells after reset but for IE, the masks M75 M65 M55, L75 and SOD. -/
def cells (ie m75 m65 m55 l75 sod : Nat) : Control :=
  { Control.reset with ie := ie == 1, m75 := m75 == 1, m65 := m65 == 1, m55 := m55 == 1, l75 := l75 == 1, sod := sod == 1 }

/-- A SIM row: A, the cells before, the cells after. -/
def simRow (a : Byte) (before after : Control) : Bool :=
  gives (((running [0x30]).setReg .a a).setCtl before) (fun t => t.ctl == after && t.pc == 0x2001)

theorem test_SIM_masks_and_latch :
    (simRow 0x4D (cells 0 0 1 0 1 1) (cells 0 1 0 1 1 0) && simRow 0x1F (cells 0 0 0 0 1 1) (cells 0 1 1 1 0 1) &&
      simRow 0x08 (cells 0 1 1 1 0 0) (cells 0 0 0 0 0 0)) = true := by decide
theorem test_SIM_independent :
    (simRow 0x00 (cells 0 0 1 0 1 1) (cells 0 0 1 0 1 1) && simRow 0x40 (cells 0 0 1 0 0 1) (cells 0 0 1 0 0 0) &&
      simRow 0xC0 (cells 0 1 1 1 0 0) (cells 0 1 1 1 0 1) && simRow 0x27 (cells 0 0 0 0 1 0) (cells 0 0 0 0 1 0)) = true := by
  decide
/-- The three RIM rows: the byte for the level of SID the row states. -/
theorem test_RIM_byte :
    (cells 0 1 1 1 0 0).rimByte false = 0x07 ∧ (cells 1 1 0 1 0 0).rimByte true = 0x8D ∧
    (cells 0 1 1 1 1 0).rimByte true = 0xC7 := by decide
theorem test_RIM_keeps_latch : gives ((running [0x20]).setCtl (cells 0 1 1 1 1 0))
    (fun t => t.ctl == cells 0 1 1 1 1 0 && t.pc == 0x2001) = true := by decide
theorem test_DI : gives ((running [0xF3]).setCtl (cells 1 1 1 1 0 0)) (fun t => t.ctl == cells 0 1 1 1 0 0) = true := by decide
theorem test_EI : gives (running [0xFB]) (fun t => t.ctl == { cells 1 1 1 1 0 0 with eiPending := true }) = true := by decide
theorem test_HLT : gives ((place State.reset 0x2010 [0x76]).setPc 0x2010) (fun t => t.pc == 0x2011 && t.ctl.halted) = true := by
  decide
theorem test_NOP_wraps : gives ((place State.reset 0xFFFF [0x00]).setPc 0xFFFF) (fun t => t.pc == 0x0000) = true := by decide

/-- 2.7: the model refuses each of the ten bytes. -/
theorem test_undefined_refused :
    ([0x08, 0x10, 0x18, 0x28, 0x38, 0xCB, 0xD9, 0xDD, 0xED, 0xFD].all fun b =>
      refuses (running [b]) (.illegalOpcode b)) = true := by decide
/-- 2.7: the store of STA 2003H is seen by the next fetch. -/
theorem test_store_is_fetched : gives ((running [0x32, 0x03, 0x20, 0x00]).setReg .a 0x3C)
    (fun t => gives t fun u => u.reg .a == 0x3D && u.pc == 0x2004) = true := by decide
/-- R74: an access to an absent address is refused. -/
theorem test_absent_refused : refuses { running [0x3A, 0x00, 0x90] with memMap := [⟨0x9000, 0x9FFF, .absent⟩] }
    (.absentAddress 0x9000) = true := by decide
/-- R74: ROM ignores a write, a device sees it. -/
theorem test_rom_and_device :
    (gives { place (running [0x32, 0x00, 0x90]) 0x9000 [0x5A] with memMap := [⟨0x9000, 0x9FFF, .rom⟩] }
        (fun t => t.byteAt 0x9000 == 0x5A && t.trace == []) &&
      gives { running [0x32, 0x00, 0x90] with memMap := [⟨0x9000, 0x9FFF, .device⟩] }
        (fun t => t.mem == (running [0x32, 0x00, 0x90]).mem && t.trace == [.device 0x9000 0x00])) = true := by decide

/-! ## Interrupts (2.8) -/

/-- At a boundary with PC 2010H, SP 2100H, an instruction NOP at PC, these control cells and this event. -/
def atBoundary (k : Control) (ev : IrqEvent) : State :=
  { place ((State.reset.setPc 0x2010).setSp 0x2100) 0x2010 [0x00] with ctl := k, irq := [ev] }

/-- The return address 2010H stands on the stack and PC is at that vector. -/
def entered (t : State) (vector : Word) : Bool :=
  t.byteAt 0x20FF == 0x20 && t.byteAt 0x20FE == 0x10 && t.sp == 0x20FE && t.pc == vector && !t.ctl.ie

theorem test_RST75_entered : gives (atBoundary (cells 1 0 0 0 0 0) { IrqEvent.quiet with edge75 := true })
    (fun t => entered t 0x003C && !t.ctl.l75) = true := by decide
theorem test_RST75_masked : gives (atBoundary (cells 1 1 0 0 0 0) { IrqEvent.quiet with edge75 := true })
    (fun t => t.pc == 0x2011 && t.ctl.l75) = true := by decide
theorem test_RST75_disabled : gives (atBoundary (cells 0 0 0 0 0 0) { IrqEvent.quiet with edge75 := true })
    (fun t => t.pc == 0x2011 && t.ctl.l75) = true := by decide
theorem test_RST65_after_EI :
    gives (atBoundary { cells 1 0 0 0 0 0 with eiPending := true } { IrqEvent.quiet with line65 := true })
      (fun t => t.pc == 0x2011 && !t.ctl.eiPending) = true := by decide
theorem test_RST55_ends_halt :
    gives (atBoundary { cells 1 0 0 0 0 0 with halted := true } { IrqEvent.quiet with line55 := true })
      (fun t => entered t 0x002C && !t.ctl.halted) = true := by decide
theorem test_halt_stays :
    gives (atBoundary { cells 0 0 0 0 0 0 with halted := true } { IrqEvent.quiet with line55 := true })
      (fun t => t.pc == 0x2010 && t.ctl.halted) = true := by decide
theorem test_RST75_before_RST55 :
    gives (atBoundary (cells 1 0 0 0 0 0) { IrqEvent.quiet with edge75 := true, line55 := true })
      (fun t => entered t 0x003C) = true := by decide
theorem test_TRAP_entered : gives (atBoundary (cells 1 1 1 1 0 0) { IrqEvent.quiet with trap := true })
    (fun t => entered t 0x0024 && t.ctl.rimByte false == 0x0F) = true := by decide
theorem test_TRAP_when_disabled : gives (atBoundary (cells 0 1 1 1 0 0) { IrqEvent.quiet with trap := true })
    (fun t => entered t 0x0024 && t.ctl.rimByte false == 0x07) = true := by decide
theorem test_INTR_RST_7 : gives (atBoundary (cells 1 1 1 1 0 0) { IrqEvent.quiet with intr := true, intrOpcode := 0xFF })
    (fun t => entered t 0x0038) = true := by decide
theorem test_INTR_CALL :
    gives (atBoundary (cells 1 1 1 1 0 0)
        { IrqEvent.quiet with intr := true, intrOpcode := 0xCD, intrLo := 0x34, intrHi := 0x12 })
      (fun t => entered t 0x1234) = true := by decide
theorem test_INTR_other : refuses (atBoundary (cells 1 1 1 1 0 0) { IrqEvent.quiet with intr := true, intrOpcode := 0x00 })
    (.intrOpcode 0x00) = true := by decide
theorem test_reset_event : gives (atBoundary (cells 1 0 0 0 1 1) { IrqEvent.quiet with reset := true, trap := true })
    (fun t => t.pc == 0x0000 && !t.ctl.ie && t.ctl.m75 && t.ctl.m65 && t.ctl.m55 && !t.ctl.l75 && !t.ctl.sod) = true := by
  decide

/-! ## The host's way in -/

/-- CD 34 12 placed for the first step after reset: the call of 1234H runs, from SP 0000H. -/
theorem test_withFetchWord_CALL : gives (State.reset.withFetchWord 24 0x1234CD)
    (fun t => t.pc == 0x1234 && t.sp == 0xFFFE && t.byteAt 0xFFFE == 0x03) = true := by decide
/-- A halted machine with a pending request runs the word too. -/
theorem test_withFetchWord_halted :
    gives ((atBoundary { cells 1 0 0 0 1 0 with halted := true } { IrqEvent.quiet with trap := true }).withFetchWord 16 0x2A3E)
      (fun t => t.reg .a == 0x2A && t.pc == 0x2012) = true := by decide

/-! ## Witnesses: for each statement with hypotheses, a state and operands that meet them -/

/-- RAM but for one device at 0000H, ROM at FFFFH and nothing at 8000H: HL at the device, BC at ROM, DE and SP at RAM. -/
def mapped : State :=
  { State.reset with
    memMap := [⟨0x0000, 0x0000, .device⟩, ⟨0xFFFF, 0xFFFF, .rom⟩, ⟨0x8000, 0x8000, .absent⟩]
    regs := { a := 0x99, b := 0xFF, c := 0xFF, d := 0x7F, e := 0xFF, h := 0x00, l := 0x00 }
    sp := 0x0001 }

/-- O2: HL at a device. -/
theorem witness_MovMovesAByteAtHL : mapped.present mapped.hl = true := by decide
/-- O3. -/
theorem witness_MviLoadsTheInstructionByte : mapped.present mapped.hl = true := by decide
/-- O4: the address FFFFH, ROM, and both pairs. -/
theorem witness_LdaAndLdaxLoadTheAccumulator : mapped.present 0xFFFF = true ∧
    ∀ p, mapped.present (mapped.pair (pairOfIndex p)) = true := ⟨by decide, by intro p; cases p <;> decide⟩
/-- O6: the second byte at 0000H, a device. -/
theorem witness_LhldLoadsLThenH : mapped.present 0xFFFF = true ∧ mapped.present (0xFFFF + 1) = true := by decide
/-- O7. -/
theorem witness_StaAndStaxStoreTheAccumulator : mapped.present 0xFFFF = true ∧
    ∀ p, mapped.present (mapped.pair (pairOfIndex p)) = true := ⟨by decide, by intro p; cases p <;> decide⟩
/-- O8. -/
theorem witness_ShldStoresLThenH : mapped.present 0xFFFF = true ∧ mapped.present (0xFFFF + 1) = true := by decide
/-- O10: SP at FFFFH, ROM, and the byte above it the device. -/
theorem witness_XthlExchangesHLWithTheTop : (mapped.setSp 0xFFFF).canPop := ⟨by decide, by decide⟩
/-- O11: SP 0001H, so the high byte goes to the device at 0000H and the low byte to ROM at FFFFH. -/
theorem witness_PushStoresThePair : mapped.canPush := ⟨by decide, by decide⟩
/-- O12. -/
theorem witness_PushPswStoresAAndTheFlagByte : mapped.canPush := ⟨by decide, by decide⟩
/-- O13. -/
theorem witness_PopLoadsThePair : (mapped.setSp 0xFFFF).canPop := ⟨by decide, by decide⟩
/-- O14. -/
theorem witness_PopPswLoadsAAndTheFlags : (mapped.setSp 0xFFFF).canPop := ⟨by decide, by decide⟩
/-- O16: each kind of operand. -/
theorem witness_AddAndAdcAdd : operandPresent mapped (.reg .a) ∧ operandPresent mapped .mem ∧
    operandPresent mapped (.imm 0xFF) := ⟨trivial, rfl, trivial⟩
/-- O17. -/
theorem witness_SubAndSbbSubtract : operandPresent mapped (.reg .a) ∧ operandPresent mapped .mem ∧
    operandPresent mapped (.imm 0xFF) := ⟨trivial, rfl, trivial⟩
/-- O18. -/
theorem witness_InrAndDcrStepTheByte : mapped.present mapped.hl = true := by decide
/-- O22: 99 + 99 with a carry. -/
theorem witness_DaaMakesTheDecimalSum : IsBcd (mapped.reg .a) ∧ IsBcd 0x99 :=
  ⟨⟨by decide, by decide⟩, ⟨by decide, by decide⟩⟩
/-- O23: each of the three operations. -/
theorem witness_AndOrXorCombineBitwise :
    (∀ op : AluOp, op = .ana ∨ op = .ora ∨ op = .xra → ∃ s, operandPresent s .mem) ∧
    (AluOp.ana = .ana ∧ AluOp.ora = .ora ∧ AluOp.xra = .xra) :=
  ⟨fun _ _ => ⟨mapped, rfl⟩, rfl, rfl, rfl⟩
/-- O24. -/
theorem witness_CompareSetsTheFlagsOfTheDifference : operandPresent mapped .mem := rfl
/-- O26: each of the four forms and the bits 0 and 6. -/
theorem witness_RotatesMoveTheBits :
    (Form.rlc = .rlc ∧ Form.ral = .ral ∧ Form.rrc = .rrc ∧ Form.rar = .rar) ∧ 0 < 7 ∧ 6 < 7 :=
  ⟨⟨rfl, rfl, rfl, rfl⟩, by decide, by decide⟩
/-- O28: each condition both ways, and room to push. -/
theorem witness_CallsPushTheReturnAddress : mapped.canPush ∧
    (∀ cc, (fl 1 0 1 1 1).get (condFlag cc) = condSense cc ∨ (fl 0 0 0 0 0).get (condFlag cc) = condSense cc) ∧
    ∀ cc, (fl 1 0 1 1 1).get (condFlag cc) ≠ condSense cc ∨ (fl 0 0 0 0 0).get (condFlag cc) ≠ condSense cc :=
  ⟨⟨by decide, by decide⟩, by intro cc; cases cc <;> decide, by intro cc; cases cc <;> decide⟩
/-- O29: RZ taken and RNZ not taken, with a word to pop. -/
theorem witness_ReturnsPopThePC : (mapped.setSp 0xFFFF).canPop ∧
    (fl 0 0 1 0 0).get (condFlag .z) = condSense .z ∧ (fl 0 0 1 0 0).get (condFlag .nz) ≠ condSense .nz :=
  ⟨⟨by decide, by decide⟩, by decide, by decide⟩
/-- O30. -/
theorem witness_RstCallsEightTimesN : mapped.canPush := ⟨by decide, by decide⟩
/-- The state after CALL 1234H at 0000H with SP 0001H, and that state after a subroutine that changed A. -/
def called (a : Byte) : State :=
  { State.reset with
    regs := { State.reset.regs with a := a }, sp := 0xFFFF, mem := [(0x0000, 0x00), (0xFFFF, 0x03)], pc := 0x1234 }

/-- O31. -/
theorem witness_ReturnComesBackBehindTheCall :
    (State.reset.setSp 0x0001).kindAt 0x0000 = .ram ∧ (State.reset.setSp 0x0001).kindAt 0xFFFF = .ram ∧
    exec (Form.call 0x1234).instr (State.reset.setSp 0x0001) = .next (called 0x00) ∧
    (called 0x55).memMap = (called 0x00).memMap ∧ (called 0x55).sp = (called 0x00).sp ∧
    (called 0x55).byteAt 0x0000 = (called 0x00).byteAt 0x0000 ∧
    (called 0x55).byteAt 0xFFFF = (called 0x00).byteAt 0xFFFF :=
  ⟨by decide, by decide, rfl, rfl, rfl, rfl, rfl⟩
/-- O32: after EI a boundary with every line asserted takes TRAP, and so does the boundary after DI. -/
theorem witness_DiAndEiSwitchTheEnable :
    (∃ t, exec Form.ei.instr State.reset = .next t ∧
      ({ t with irq := [{ IrqEvent.quiet with trap := true, line65 := true, intr := true }] } : State).request =
        some (.vectored .trap)) ∧
    ∃ t, exec Form.di.instr State.reset = .next t ∧
      ({ t with irq := [{ IrqEvent.quiet with trap := true, line65 := true, intr := true }] } : State).request =
        some (.vectored .trap) :=
  ⟨⟨_, rfl, by decide⟩, _, rfl, by decide⟩

/-- O36: a byte of the list, first of three bytes. -/
theorem witness_UndefinedBytesAreRefused : decode [0xFD, 0x34, 0x56] = .ok (.undefined 0xFD, [0x34, 0x56]) := rfl
/-- O37: an instruction of each length and an undefined byte. -/
theorem witness_DecodeUndoesEncode : (Instr.nop).wellFormed = true ∧ (Instr.mviA 0xFF).wellFormed = true ∧
    (Instr.jmp 0xFFFF).wellFormed = true ∧ (Instr.undefined 0xFD).wellFormed = true := by decide
/-- O38. -/
theorem witness_DecodedBytesAreAnEncoding : decode [0xC3, 0x34, 0x56, 0x78] = .ok (.jmp 0x5634, [0x78]) := rfl
/-- O40: MVI A, 2AH across FFFFH; and JZ with ZF 0 whose third byte is absent. -/
theorem witness_StepRunsTheDecodedInstruction :
    (let s := (place State.reset 0xFFFF [0x3E, 0x2A]).setPc 0xFFFF
     s.fetches = true ∧ s.sampled.presentRun s.pc 2 ∧ decode (s.sampled.readRun s.pc 2).1 = .ok (.mviA 0x2A, []) ∧
       skipsByte3 s.flags (Instr.mviA 0x2A).form = false) ∧
    (let s := { running [0xCA, 0x10] with memMap := [⟨0x2002, 0x2002, .absent⟩] }
     s.fetches = true ∧ s.sampled.presentRun s.pc 2 ∧
       decode ((s.sampled.readRun s.pc 2).1 ++ [0x20]) = .ok (.jz 0x2010, []) ∧
       skipsByte3 s.flags (Instr.jz 0x2010).form = true) :=
  ⟨⟨by decide, ⟨by decide, by decide, trivial⟩, rfl, by decide⟩, ⟨by decide, ⟨by decide, by decide, trivial⟩, rfl, by decide⟩⟩
/-- O41: a latched RST 7.5 that is masked. -/
theorem witness_QuietBoundaryFetches : State.reset.irq = [] ∧ State.reset.ctl.halted = false ∧
    ((State.reset.setCtl (cells 1 1 1 1 1 0)).ctl.l75 = true → (State.reset.setCtl (cells 1 1 1 1 1 0)).ctl.m75 = true) := by
  decide
/-- O42: two requests at once, and none. -/
theorem witness_HighestAcceptableRequestIsTaken :
    (let s := atBoundary (cells 1 0 0 0 0 0) { IrqEvent.quiet with edge75 := true, line55 := true }
     s.request = some (.vectored .rst75) ∧ canAccept s (.vectored .rst55)) ∧ State.reset.request = none :=
  ⟨⟨by decide, by decide, by decide, by decide, by decide⟩, by decide⟩
/-- O43: each of the four inputs, from the halt state. -/
theorem witness_InterruptEntrySavesThePC :
    ∀ src, ∃ s : State, s.event.reset = false ∧ s.request = some (.vectored src) ∧ s.canPush := by
  intro src
  cases src
  · exact ⟨atBoundary (cells 0 1 1 1 0 0) { IrqEvent.quiet with trap := true }, by decide, by decide, by decide, by decide⟩
  · exact ⟨atBoundary (cells 1 0 0 0 1 0) IrqEvent.quiet, by decide, by decide, by decide, by decide⟩
  · exact ⟨atBoundary (cells 1 0 0 0 0 0) { IrqEvent.quiet with line65 := true }, by decide, by decide, by decide, by decide⟩
  · exact ⟨atBoundary { cells 1 0 0 0 0 0 with halted := true } { IrqEvent.quiet with line55 := true },
      by decide, by decide, by decide, by decide⟩
/-- INTR reported with that first byte. -/
def intrBoundary (op : Byte) : State :=
  atBoundary (cells 1 1 1 1 0 0) { IrqEvent.quiet with intr := true, intrOpcode := op }

/-- O44: RST 0, RST 7, CALL, and a byte that is neither. -/
theorem witness_IntrRunsTheDevicesInstruction :
    (∀ op, (intrBoundary op).event.reset = false ∧ (intrBoundary op).request = some .intr ∧ (intrBoundary op).canPush) ∧
    (0xC7 : Byte) = 0xC7 + 8 * BitVec.ofNat 8 (0 : Fin 8).val ∧ (0xFF : Byte) = 0xC7 + 8 * BitVec.ofNat 8 (7 : Fin 8).val ∧
    ((∀ n : Fin 8, (0x00 : Byte) ≠ 0xC7 + 8 * BitVec.ofNat 8 n.val) ∧ (0x00 : Byte) ≠ 0xCD) :=
  ⟨fun _ => ⟨rfl, rfl, rfl, rfl⟩, by decide, by decide, by decide, by decide⟩
/-- O45: after EI a boundary with every line asserted takes TRAP; its control cells are those of a state. -/
theorem witness_EiAdmitsAfterOneMoreInstruction : ∃ t, exec .ei State.reset = .next t ∧
    ({ t with irq := [{ IrqEvent.quiet with trap := true, intr := true }] } : State).request = some (.vectored .trap) :=
  ⟨_, rfl, by decide⟩
/-- O46. -/
theorem witness_FirstRimAfterTrapShowsTheOldEnable :
    (atBoundary (cells 1 1 1 1 0 0) { IrqEvent.quiet with trap := true }).event.reset = false ∧
    (atBoundary (cells 1 1 1 1 0 0) { IrqEvent.quiet with trap := true }).event.trap = true ∧
    (atBoundary (cells 1 1 1 1 0 0) { IrqEvent.quiet with trap := true }).canPush := ⟨by decide, by decide, by decide, by decide⟩
/-- O47. -/
theorem witness_ResetEventSetsTheListedCells :
    (atBoundary (cells 1 0 0 0 1 1) { IrqEvent.quiet with reset := true }).event.reset = true := by decide
/-- O50: a state in the invariant with EI_PENDING set, and its step. -/
theorem witness_StepsKeepTheInvariant :
    ((running [0x76]).setCtl { cells 1 1 1 1 0 0 with eiPending := true }).Inv ∧
    ∃ t, step ((running [0x76]).setCtl { cells 1 1 1 1 0 0 with eiPending := true }) = .next t :=
  ⟨⟨by decide, by decide, by decide⟩, _, rfl⟩
/-- O51: all RAM, an instruction that stores. -/
theorem witness_EveryDefinedInstructionCompletes :
    (∀ a, State.reset.present a = true) ∧ ∀ op, Instr.pushPSW ≠ .undefined op := ⟨fun _ => rfl, by intro _ h; cases h⟩
/-- O53: ANA keeps no flag but clears CF and sets AF, INR keeps CF; and an interrupt is taken. -/
theorem witness_FlagsChangeOnlyAsTheTableSays :
    (∃ t, exec .anaA State.reset = .next t) ∧ flagEffect (Instr.anaA).form .cf = .zero ∧
    flagEffect (Instr.anaA).form .af = .one ∧ (∃ t, exec .inrB State.reset = .next t) ∧
    flagEffect (Instr.inrB).form .cf = .kept ∧
    (let s := atBoundary (cells 1 1 1 1 0 0) { IrqEvent.quiet with trap := true }
     s.event.reset = false ∧ s.request ≠ none ∧ ∃ t, step s = .next t) :=
  ⟨⟨_, rfl⟩, rfl, rfl, ⟨_, rfl⟩, rfl, by decide, by decide, _, rfl⟩
/-- O54: ADD does not read CF and overwrites it; MOV leaves it. -/
theorem witness_UnreadFlagsHaveNoInfluence : readsFlag (Instr.addB).form .cf = false ∧
    (∃ t, exec .addB State.reset = .next t) ∧ readsFlag (Instr.movAB).form .cf = false ∧
    ∃ t, exec .movAB State.reset = .next t := ⟨rfl, ⟨_, rfl⟩, rfl, ⟨_, rfl⟩⟩
/-- O55: HLT runs; and a halted machine goes on. -/
theorem witness_HaltIsEnteredAndLeftOnlyAsSaid : (∃ t, step (running [0x76]) = .next t ∧ t.ctl.halted = true) ∧
    ∃ t, step ((running [0x00]).setCtl { cells 0 1 1 1 0 0 with halted := true }) = .next t ∧ t.ctl.halted = true :=
  ⟨⟨_, rfl, rfl⟩, ⟨_, rfl, rfl⟩⟩
/-- O56: EI changes IE, and so does an interrupt. -/
theorem witness_EnableChangesOnlyAsSaid :
    (∃ t, step (running [0xFB]) = .next t ∧ t.ctl.ie ≠ (running [0xFB]).ctl.ie) ∧
    ∃ t, step (atBoundary (cells 1 1 1 1 0 0) { IrqEvent.quiet with trap := true }) = .next t ∧ t.ctl.ie ≠ true :=
  ⟨⟨_, rfl, by decide⟩, ⟨_, rfl, by decide⟩⟩
/-- O57: a request held, and one newly latched. -/
theorem witness_Rst75RequestStaysLatched :
    (∃ t, step ((running [0x00]).setCtl (cells 0 0 0 0 1 0)) = .next t) ∧
    ∃ t, step (atBoundary (cells 0 0 0 0 0 0) { IrqEvent.quiet with edge75 := true }) = .next t := ⟨⟨_, rfl⟩, ⟨_, rfl⟩⟩
/-- O58: a push to ROM and to a device. -/
theorem witness_RomStaysAndOutputsOnlyGrow :
    ∃ t, step (place mapped 0x0100 [0xC5] |>.setPc 0x0100) = .next t ∧ mapped.kindAt 0xFFFF ≠ .ram := ⟨_, rfl, by decide⟩
/-- O59: an address of each kind. -/
theorem witness_AccessesFollowTheMemoryMap : mapped.kindAt 0x0001 = .ram ∧ mapped.kindAt 0xFFFF = .rom ∧
    mapped.kindAt 0x0000 = .device ∧ mapped.kindAt 0x8000 = .absent := by decide
/-- O60: halted, a masked request latched. -/
theorem witness_HaltWithoutInterruptIsFinal :
    let s := State.reset.setCtl { cells 1 1 1 1 1 0 with halted := true }
    s.ctl.halted = true ∧ s.irq = [] ∧ s.ctl.eiPending = false ∧
      (s.ctl.l75 = true → s.ctl.m75 = true ∨ s.ctl.ie = false) := by decide

end Sys2Proof.Tests
end

section
/-! The frame of an instruction: the updates of the state a completed instruction is made of, and what follows from them
for the control cells and for memory. -/

namespace Sys2Proof.Machine
open Sys2Proof

/-! ## The control cells an instruction leaves -/

/-- The forms that write a control cell: DI, EI, SIM, RIM and HLT (45_machine_control.md R260 to R264). -/
def writesControl : Form → Bool
  | .di | .ei | .sim | .rim | .hlt => true
  | _ => false

/-- The control cells after an instruction of that form has completed from `s`. -/
def controlAfter (f : Form) (s : State) : Control :=
  match f with
  | .di => { s.ctl with ie := false, eiPending := false }
  | .ei => { s.ctl with ie := true, eiPending := true }
  | .sim => s.ctl.sim (s.reg .a)
  | .rim => { s.ctl with trapShadowValid := false }
  | .hlt => { s.ctl with halted := true }
  | _ => s.ctl

theorem controlAfter_of_not_writesControl {f : Form} (hf : writesControl f = false) (s : State) :
    controlAfter f s = s.ctl := by
  unfold controlAfter
  split <;> simp_all [writesControl]

/-! ## The updates an instruction is made of -/

/-- `t` comes from `s`, with the control cells of `controlAfter`, by updates of registers, SP, PC and flags, reads and
writes of memory, outputs and draws. -/
inductive Updates (f : Form) (s : State) : State → Prop
  | control : Updates f s (s.setCtl (controlAfter f s))
  | setReg {t : State} (x : Reg) (v : Byte) : Updates f s t → Updates f s (t.setReg x v)
  | setSp {t : State} (w : Word) : Updates f s t → Updates f s (t.setSp w)
  | setPc {t : State} (w : Word) : Updates f s t → Updates f s (t.setPc w)
  | setFlags {t : State} (g : Flags) : Updates f s t → Updates f s (t.setFlags g)
  | drawn {t : State} : Updates f s t → Updates f s t.drawn
  | emit {t : State} (e : OutEvent) : Updates f s t → Updates f s (t.emit e)
  | afterRead {t : State} (a : Word) : Updates f s t → Updates f s (t.afterRead a)
  | afterWrite {t : State} (a : Word) (v : Byte) : Updates f s t → Updates f s (t.afterWrite a v)

namespace Updates

variable {f : Form} {s t : State}

theorem refl (hf : writesControl f = false) : Updates f s s := by
  have h : Updates f s (s.setCtl (controlAfter f s)) := control
  rwa [controlAfter_of_not_writesControl hf] at h

theorem advance (n : Nat) (h : Updates f s t) : Updates f s (t.advance n) := h.setPc _

theorem setCF (c : Bool) (h : Updates f s t) : Updates f s (t.setCF c) := h.setFlags _

theorem setPair (p : Pair) (w : Word) (h : Updates f s t) : Updates f s (t.setPair p w) := by
  cases p with
  | bc => exact (h.setReg .b _).setReg .c _
  | de => exact (h.setReg .d _).setReg .e _
  | hl => exact (h.setReg .h _).setReg .l _
  | sp => exact h.setSp w

theorem pushed (w : Word) (h : Updates f s t) : Updates f s (t.pushed w) :=
  (((h.setSp _).afterWrite _ _).setSp _).afterWrite _ _

theorem popped (h : Updates f s t) : Updates f s t.popped :=
  (((h.afterRead _).setSp _).afterRead _).setSp _

/-- The control cells are those of `controlAfter`. -/
theorem ctl (h : Updates f s t) : t.ctl = controlAfter f s := by
  induction h with
  | control => rfl
  | _ => simp [*]

/-- Memory stays in its canonical form. -/
theorem mem_wf (h : Updates f s t) (hs : s.mem.wf = true) : t.mem.wf = true := by
  induction h with
  | control => exact hs
  | afterWrite a v _ ih => exact State.mem_wf_afterWrite a v ih
  | _ => simp [*]

end Updates

/-! ## Shared operations as updates -/

theorem callTo_updates {f : Form} (hf : writesControl f = false) {s t : State} {ret target : Word}
    (h : callTo s ret target = .next t) : Updates f s t := by
  obtain ⟨-, -, rfl⟩ := callTo_next.mp h
  exact ((Updates.refl hf).pushed ret).setPc target

theorem returnFromStack_updates {f : Form} (hf : writesControl f = false) {s t : State}
    (h : returnFromStack s = .next t) : Updates f s t := by
  obtain ⟨-, -, rfl⟩ := returnFromStack_next.mp h
  exact (Updates.refl hf).popped.setPc _

/-- The rest of an instruction after a read of its second operand. -/
theorem loadOperand_updates {f : Form} {s t : State} {x : Operand} {k : Byte → State → Result}
    (h : loadOperand x s k = .next t) (hs : Updates f s s)
    (hk : ∀ v s1, Updates f s s1 → k v s1 = .next t → Updates f s t) : Updates f s t := by
  cases x with
  | reg r => exact hk _ _ hs h
  | mem => exact hk _ _ (hs.afterRead _) (load_next.mp h).2
  | imm d8 => exact hk _ _ hs h

/-- The rest of an instruction after a read of a register or of M. -/
theorem loadLoc_updates {f : Form} {s t : State} {x : Loc} {k : Byte → State → Result}
    (h : loadLoc x s k = .next t) (hs : Updates f s s)
    (hk : ∀ v s1, Updates f s s1 → k v s1 = .next t → Updates f s t) : Updates f s t := by
  cases x with
  | reg r => exact hk _ _ hs h
  | mem => exact hk _ _ (hs.afterRead _) (load_next.mp h).2

/-- The rest of an instruction after a write of a register or of M. -/
theorem storeLoc_updates {f : Form} {s s1 t : State} {x : Loc} {v : Byte} {k : State → Result}
    (h : storeLoc x v s1 k = .next t) (hs : Updates f s s1)
    (hk : ∀ s2, Updates f s s2 → k s2 = .next t → Updates f s t) : Updates f s t := by
  cases x with
  | reg r => exact hk _ (hs.setReg _ _) h
  | mem => exact hk _ (hs.afterWrite _ _) (store_next.mp h).2

/-- What a meaning that ends at once has done. -/
theorem updates_of_next {f : Form} {s t u : State} (h : (.next u : Result) = .next t) (hu : Updates f s u) :
    Updates f s t := by
  obtain rfl := Host.Outcome.next.inj h
  exact hu

/-! ## Every instruction -/

/-- A completed instruction is a sequence of updates. -/
theorem formMeaning_updates {f : Form} {s t : State} (h : formMeaning f s = .next t) : Updates f s t := by
  cases f with
  | mov dst src => exact updates_of_next h ((Updates.control.setReg _ _).advance _)
  | movFromM dst =>
    simp only [formMeaning, movLoad, load_next] at h
    obtain ⟨-, h⟩ := h
    exact updates_of_next h (((Updates.control.afterRead _).setReg _ _).advance _)
  | movToM src =>
    simp only [formMeaning, movStore, store_next] at h
    obtain ⟨-, h⟩ := h
    exact updates_of_next h ((Updates.control.afterWrite _ _).advance _)
  | mvi x d8 =>
    simp only [formMeaning, moveImm] at h
    exact storeLoc_updates h .control fun s1 h1 hk => updates_of_next hk (h1.advance _)
  | lda a =>
    simp only [formMeaning, execLda, load_next] at h
    obtain ⟨-, h⟩ := h
    exact updates_of_next h (((Updates.control.afterRead _).setReg _ _).advance _)
  | ldax p =>
    simp only [formMeaning, loadIndexed, load_next] at h
    obtain ⟨-, h⟩ := h
    exact updates_of_next h (((Updates.control.afterRead _).setReg _ _).advance _)
  | lxi p w => exact updates_of_next h ((Updates.control.setPair _ _).advance _)
  | lhld a =>
    simp only [formMeaning, execLhld, load_next] at h
    obtain ⟨-, -, h⟩ := h
    exact updates_of_next h
      (((((Updates.control.afterRead _).afterRead _).setReg _ _).setReg _ _).advance _)
  | sta a =>
    simp only [formMeaning, execSta, store_next] at h
    obtain ⟨-, h⟩ := h
    exact updates_of_next h ((Updates.control.afterWrite _ _).advance _)
  | stax p =>
    simp only [formMeaning, storeIndexed, store_next] at h
    obtain ⟨-, h⟩ := h
    exact updates_of_next h ((Updates.control.afterWrite _ _).advance _)
  | shld a =>
    simp only [formMeaning, execShld, store_next] at h
    obtain ⟨-, -, h⟩ := h
    exact updates_of_next h (((Updates.control.afterWrite _ _).afterWrite _ _).advance _)
  | sphl => exact updates_of_next h ((Updates.control.setSp _).advance _)
  | xchg => exact updates_of_next h (((Updates.control.setPair .de _).setPair .hl _).advance _)
  | xthl =>
    simp only [formMeaning, execXthl, load_next, store_next] at h
    obtain ⟨-, -, -, -, h⟩ := h
    exact updates_of_next h
      ((((((Updates.control.afterRead _).afterRead _).afterWrite _ _).afterWrite _ _).setPair .hl _).advance _)
  | push p =>
    simp only [formMeaning, pushPair, push16_next] at h
    obtain ⟨-, -, h⟩ := h
    exact updates_of_next h ((Updates.control.pushed _).advance _)
  | pushPsw =>
    simp only [formMeaning, execPushPSW, push16_next] at h
    obtain ⟨-, -, h⟩ := h
    exact updates_of_next h ((Updates.control.drawn.pushed _).advance _)
  | pop p =>
    simp only [formMeaning, popPair, pop16_next] at h
    obtain ⟨-, -, h⟩ := h
    exact updates_of_next h ((Updates.control.popped.setPair _ _).advance _)
  | popPsw =>
    simp only [formMeaning, execPopPSW, pop16_next] at h
    obtain ⟨-, -, h⟩ := h
    exact updates_of_next h (((Updates.control.popped.setReg _ _).setFlags _).advance _)
  | outPort p => exact updates_of_next h ((Updates.control.emit _).advance _)
  | inPort p => exact updates_of_next h ((Updates.control.drawn.setReg _ _).advance _)
  | alu op x =>
    simp only [formMeaning, operateOnA] at h
    exact loadOperand_updates h .control fun v s1 h1 hk => updates_of_next hk (((h1.setReg _ _).setFlags _).advance _)
  | daa => exact updates_of_next h (((Updates.control.setReg _ _).setFlags _).advance _)
  | dad p => exact updates_of_next h (((Updates.control.setPair _ _).setCF _).advance _)
  | inr x =>
    simp only [formMeaning, increment] at h
    exact loadLoc_updates h .control fun v s1 h1 hk =>
      storeLoc_updates hk h1 fun s2 h2 hk2 => updates_of_next hk2 ((h2.setFlags _).advance _)
  | inx p => exact updates_of_next h ((Updates.control.setPair _ _).advance _)
  | dcr x =>
    simp only [formMeaning, decrement] at h
    exact loadLoc_updates h .control fun v s1 h1 hk =>
      storeLoc_updates hk h1 fun s2 h2 hk2 => updates_of_next hk2 ((h2.setFlags _).advance _)
  | dcx p => exact updates_of_next h ((Updates.control.setPair _ _).advance _)
  | cma => exact updates_of_next h ((Updates.control.setReg _ _).advance _)
  | cmc => exact updates_of_next h ((Updates.control.setCF _).advance _)
  | stc => exact updates_of_next h ((Updates.control.setCF _).advance _)
  | rlc => exact updates_of_next h (((Updates.control.setReg _ _).setCF _).advance _)
  | ral => exact updates_of_next h (((Updates.control.setReg _ _).setCF _).advance _)
  | rrc => exact updates_of_next h (((Updates.control.setReg _ _).setCF _).advance _)
  | rar => exact updates_of_next h (((Updates.control.setReg _ _).setCF _).advance _)
  | jmp a => exact updates_of_next h (Updates.control.setPc _)
  | jcc cc a =>
    simp only [formMeaning, jumpIf] at h
    split at h
    · exact updates_of_next h (Updates.control.setPc _)
    · exact updates_of_next h (Updates.control.advance _)
  | call a => exact callTo_updates rfl h
  | ccc cc a =>
    simp only [formMeaning, callIf] at h
    split at h
    · exact callTo_updates rfl h
    · exact updates_of_next h (Updates.control.advance _)
  | ret => exact returnFromStack_updates rfl h
  | rcc cc =>
    simp only [formMeaning, returnIf] at h
    split at h
    · exact returnFromStack_updates rfl h
    · exact updates_of_next h (Updates.control.advance _)
  | rst n => exact callTo_updates rfl h
  | pchl => exact updates_of_next h (Updates.control.setPc _)
  | di => exact updates_of_next h (Updates.control.advance _)
  | ei => exact updates_of_next h (Updates.control.advance _)
  | sim => exact updates_of_next h (Updates.control.advance _)
  | rim => exact updates_of_next h ((Updates.control.drawn.setReg _ _).advance _)
  | hlt => exact updates_of_next h (Updates.control.advance _)
  | nop => exact updates_of_next h (Updates.control.advance _)
  | undefined b => cases h

theorem exec_updates {i : Instr} {s t : State} (h : exec i s = .next t) : Updates i.form s t :=
  formMeaning_updates (exec_eq_formMeaning i s ▸ h)

end Sys2Proof.Machine
end

section
/-! What a step can do, said once: the fetch, the five kinds of a turn, and the opcodes of the instructions that write
control cells. -/

namespace Sys2Proof.Machine
open Sys2Proof

/-! ## The opcodes of the instructions that write control cells -/

/-- What the opcode `b` may stand for: an instruction that writes control cells only as its own encoding. -/
def OwnOpcode (b : Byte) : Format → Prop
  | .b1 f => writesControl f = true → encode f.instr = [b]
  | .b2 g => ∀ v, writesControl (g v) = false
  | .b3 g => ∀ w, writesControl (g w) = false
  | .b3cond _ g => ∀ w, writesControl (g w) = false
  | .none _ => True

theorem OwnOpcode.ite {b : Byte} {c : Prop} [Decidable c] {x y : Format} (hx : c → OwnOpcode b x)
    (hy : OwnOpcode b y) : OwnOpcode b (if c then x else y) :=
  iteInduction hx fun _ => hy

theorem OwnOpcode.of_eq {b b' : Byte} {f : Form} (he : encode f.instr = [b']) (hb : b = b') : OwnOpcode b (.b1 f) :=
  fun _ => hb ▸ he

theorem OwnOpcode.of_not_writesControl {b : Byte} {f : Form} (hf : writesControl f = false) : OwnOpcode b (.b1 f) :=
  fun h => absurd (hf.symm.trans h) Bool.false_ne_true

theorem eq_six_of_locOf_eq_mem {c : BitVec 3} (h : locOf c = .mem) : c = 6 := by
  revert c; decide

set_option maxRecDepth 4000 in
theorem eq_hlt_of_fields : ∀ b : Byte, group b = 1 → field3 b 3 = 6 → field3 b 0 = 6 → b = 0x76 := by
  decide

/-- In the block of MOV only the byte 76H, HLT, stands for an instruction that writes control cells. -/
theorem OwnOpcode.movForm {b : Byte} (hb : group b = 1) :
    OwnOpcode b (.b1 (movForm (locOf (field3 b 3)) (locOf (field3 b 0)))) := by
  cases hdst : locOf (field3 b 3) <;> cases hsrc : locOf (field3 b 0)
  case mem.mem =>
    exact .of_eq rfl (eq_hlt_of_fields b hb (eq_six_of_locOf_eq_mem hdst) (eq_six_of_locOf_eq_mem hsrc))
  all_goals exact .of_not_writesControl rfl

/-- Every first byte is either no instruction that writes control cells, or that instruction's encoding: the patterns of
the decoder in their order. Past HLT and MOV each pattern is one of four kinds: the ten undefined bytes, a one-byte form
that writes no control cell, a longer form, or a byte that the pattern names, as those of DI, EI, SIM and RIM. -/
theorem ownOpcode_decodeOpcode (b : Byte) : OwnOpcode b (decodeOpcode b) := by
  unfold decodeOpcode
  refine .ite (.of_eq rfl) (.ite .movForm ?_)
  repeat' refine OwnOpcode.ite (fun hb => ?_) ?_
  all_goals first
    | exact trivial
    | exact OwnOpcode.of_not_writesControl rfl
    | exact fun _ => rfl
    | exact OwnOpcode.of_eq rfl hb

/-! ## The fetch -/

/-- Two states that agree in everything but the count of draws. -/
def SameButDraws (s t : State) : Prop := t = { s with draws := t.draws }

theorem SameButDraws.refl (s : State) : SameButDraws s s := rfl

theorem SameButDraws.ctl {s t : State} (h : SameButDraws s t) : t.ctl = s.ctl := by rw [h]

theorem SameButDraws.mem {s t : State} (h : SameButDraws s t) : t.mem = s.mem := by rw [h]

theorem SameButDraws.reg {s t : State} (h : SameButDraws s t) (x : Reg) : t.reg x = s.reg x := by rw [h]; rfl

theorem SameButDraws.afterRead {s t : State} (h : SameButDraws s t) (a : Word) : SameButDraws s (t.afterRead a) := by
  unfold SameButDraws State.afterRead at *
  split
  · rw [h]; rfl
  · exact h

/-- What a fetch at `s` hands on: the instruction `i` and the state `s1`, in which at most devices have answered. The byte
at PC is the encoding of `i` if `i` writes control cells, and it is 76H only if `i` is HLT. -/
structure Fetched (s : State) (i : Instr) (s1 : State) : Prop where
  same : SameButDraws s s1
  opcode : writesControl i.form = true → encode i = [s.readByte s.pc]
  hlt : s.readByte s.pc = 0x76 → i.form = .hlt

theorem decodeOpcode_hlt : decodeOpcode 0x76 = .b1 .hlt := rfl

theorem Fetched.of_b1 {s s1 : State} {f : Form} (hs : SameButDraws s s1)
    (hd : decodeOpcode (s.readByte s.pc) = .b1 f) : Fetched s f.instr s1 := by
  refine ⟨hs, ?_, fun hb => ?_⟩
  · have hown := ownOpcode_decodeOpcode (s.readByte s.pc)
    rw [form_instr]
    rwa [hd] at hown
  · rw [hb, decodeOpcode_hlt] at hd
    rw [form_instr, Format.b1.inj hd]

theorem Fetched.of_not_writesControl {s s1 : State} {f : Form} (hs : SameButDraws s s1) (hf : writesControl f = false)
    (hd : decodeOpcode (s.readByte s.pc) ≠ .b1 .hlt) : Fetched s f.instr s1 := by
  refine ⟨hs, fun h => ?_, fun hb => ?_⟩
  · rw [form_instr, hf] at h
    cases h
  · exact absurd (hb ▸ decodeOpcode_hlt) hd

/-- What a fetch that ends in a next state has done. -/
theorem fetch_next {s t : State} {k : Instr → State → Result} (h : fetch s k = .next t) :
    ∃ i s1, Fetched s i s1 ∧ k i s1 = .next t := by
  obtain ⟨-, h⟩ := load_next.mp h
  have hown := ownOpcode_decodeOpcode (s.readByte s.pc)
  have h1 : SameButDraws s (s.afterRead s.pc) := (SameButDraws.refl s).afterRead _
  split at h <;> rename_i hd
  · exact ⟨_, _, .of_not_writesControl (f := .undefined _) h1 rfl (by simp [hd]), h⟩
  · exact ⟨_, _, .of_b1 h1 hd, h⟩
  · rw [hd] at hown
    obtain ⟨-, h⟩ := load_next.mp h
    exact ⟨_, _, .of_not_writesControl (h1.afterRead _) (hown _) (by simp [hd]), h⟩
  · rw [hd] at hown
    simp only [load_next] at h
    obtain ⟨-, -, h⟩ := h
    exact ⟨_, _, .of_not_writesControl ((h1.afterRead _).afterRead _) (hown _) (by simp [hd]), h⟩
  · rw [hd] at hown
    obtain ⟨-, h⟩ := load_next.mp h
    split at h
    · obtain ⟨-, h⟩ := load_next.mp h
      exact ⟨_, _, .of_not_writesControl ((h1.afterRead _).afterRead _) (hown _) (by simp [hd]), h⟩
    · exact ⟨_, _, .of_not_writesControl (h1.afterRead _) (hown _) (by simp [hd]), h⟩

/-- The opcode of a fetched instruction that writes control cells. -/
theorem Fetched.readByte_eq {s s1 : State} {i : Instr} {f : Form} {b : Byte} (h : Fetched s i s1) (hi : i.form = f)
    (hf : writesControl f = true) (hb : encode f.instr = [b]) : s.readByte s.pc = b := by
  have he : encode i = [s.readByte s.pc] := h.opcode (hi ▸ hf)
  rw [← instr_form i, hi, hb] at he
  exact (List.singleton_inj.mp he).symm

/-! ## The step -/

/-- Taking INTR ends in a call from the state with the halt over and IE cleared. -/
theorem acknowledgeIntr_next {ev : IrqEvent} {s t : State} (h : acknowledgeIntr ev s = .next t) :
    ∃ target, ((s.setCtl { s.ctl with halted := false, ie := false }).pushed s.pc).setPc target = t := by
  simp only [acknowledgeIntr] at h
  split at h
  · exact ⟨_, (callTo_next.mp h).2.2⟩
  · split at h
    · exact ⟨_, (callTo_next.mp h).2.2⟩
    · cases h

/-- The turns of the loop of 60_exceptions.md R285, each with the state it ends in. -/
inductive Turn (s : State) : State → Prop
  | reset (hr : s.event.reset = true) : Turn s s.eventTaken.resetEvent
  | vectored (src : Source) (hr : s.event.reset = false) (hq : s.request = some (.vectored src)) :
    Turn s (((s.sampled.setCtl (s.sampled.ctl.enter src)).pushed s.sampled.pc).setPc src.vector)
  | intr (target : Word) (hr : s.event.reset = false) (hq : s.request = some .intr) :
    Turn s (((s.sampled.setCtl { s.sampled.ctl with halted := false, ie := false }).pushed s.sampled.pc).setPc target)
  | halted (hr : s.event.reset = false) (hq : s.request = none) (hh : s.ctl.halted = true) : Turn s s.sampled
  | instruction {t : State} (i : Instr) (s1 : State) (hr : s.event.reset = false) (hq : s.request = none)
    (hh : s.ctl.halted = false) (hf : Fetched s.sampled i s1) (hx : exec i s1 = .next t) : Turn s t

/-- A step that ends in a next state is one of the turns. -/
theorem turn_of_step {s t : State} (h : step s = .next t) : Turn s t := by
  unfold step at h
  split at h <;> rename_i hr
  · obtain rfl := Host.Outcome.next.inj h
    exact .reset hr
  · have hr : s.event.reset = false := Bool.eq_false_iff.mpr hr
    split at h <;> rename_i hq
    · obtain ⟨-, -, rfl⟩ := enter_next.mp h
      exact .vectored _ hr hq
    · obtain ⟨target, rfl⟩ := acknowledgeIntr_next h
      exact .intr target hr hq
    · split at h <;> rename_i hh
      · obtain rfl := Host.Outcome.next.inj h
        exact .halted hr hq hh
      · obtain ⟨i, s1, hf, hx⟩ := fetch_next h
        exact .instruction i s1 hr hq (Bool.eq_false_iff.mpr hh) hf hx

end Sys2Proof.Machine
end

section
/-! The control cells and the invariant over one step: IE, EI_PENDING, HALTED and the RST 7.5 latch. -/

namespace Sys2Proof.Machine
open Sys2Proof

/-! ## Which instruction writes which control cell -/

theorem controlAfter_halted {f : Form} {s : State} :
    (controlAfter f s).halted = true ↔ s.ctl.halted = true ∨ f = .hlt := by
  unfold controlAfter
  split <;> simp_all [Control.sim]

theorem controlAfter_ie {f : Form} {s : State} (h : (controlAfter f s).ie ≠ s.ctl.ie) : f = .ei ∨ f = .di := by
  unfold controlAfter at h
  split at h <;> simp_all [Control.sim]

theorem controlAfter_l75 {f : Form} {s : State} (h : s.ctl.l75 = true) :
    (controlAfter f s).l75 = true ∨ f = .sim ∧ (s.reg .a).getLsbD 4 = true := by
  unfold controlAfter
  split <;> simp_all [Control.sim]

/-- Only EI sets EI_PENDING, and it sets IE with it. -/
theorem controlAfter_eiPending {f : Form} {s : State} (hs : s.ctl.eiPending = false)
    (h : (controlAfter f s).eiPending = true) : f = .ei := by
  unfold controlAfter at h
  split at h <;> simp_all [Control.sim]

/-! ## What the entry of an interrupt leaves in the control cells -/

@[simp] theorem enter_halted (k : Control) (src : Source) : (k.enter src).halted = false := by cases src <;> rfl

@[simp] theorem enter_eiPending (k : Control) (src : Source) : (k.enter src).eiPending = k.eiPending := by
  cases src <;> rfl

theorem enter_l75 {k : Control} {src : Source} (h : src ≠ .rst75) : (k.enter src).l75 = k.l75 := by
  cases src with
  | rst75 => exact absurd rfl h
  | _ => rfl

/-! ## The invariant -/

/-- With EI_PENDING clear the invariant is that of memory. -/
theorem inv_of_not_eiPending {s : State} (hm : s.mem.wf = true) (hp : s.ctl.eiPending = false) : s.Inv :=
  ⟨hm, fun h => absurd (hp.symm.trans h) Bool.false_ne_true, fun _ => hp⟩

/-- Settles O49: the memory of `State.reset` is the empty list. -/
theorem resetMeetsTheInvariant : Obligations.ResetMeetsTheInvariant :=
  inv_of_not_eiPending Memory.wf_nil rfl

/-- Settles O48, by evaluating the state after reset. -/
theorem resetStateHasTheListedValues : Obligations.ResetStateHasTheListedValues := by
  unfold Obligations.ResetStateHasTheListedValues
  decide

/-- An instruction run with EI_PENDING cleared and no halt, as the boundary leaves them, ends in the invariant. -/
theorem exec_inv {i : Instr} {s t : State} (hm : s.mem.wf = true) (hp : s.ctl.eiPending = false)
    (hh : s.ctl.halted = false) (h : exec i s = .next t) : t.Inv := by
  have hu := exec_updates h
  refine ⟨hu.mem_wf hm, ?_, ?_⟩ <;> rw [hu.ctl]
  · intro hpt
    rw [controlAfter_eiPending hp hpt]
    rfl
  · intro hht
    obtain hs | hf := controlAfter_halted.mp hht
    · simp [hh] at hs
    · rw [hf]
      exact hp

/-- Settles O50, by the turns of a step: each starts from a boundary that has cleared EI_PENDING. -/
theorem stepsKeepTheInvariant : Obligations.StepsKeepTheInvariant := by
  intro s t hs h
  obtain ⟨hm, -, -⟩ := hs
  cases turn_of_step h with
  | reset hr => exact inv_of_not_eiPending hm rfl
  | vectored src hr hq => exact inv_of_not_eiPending (State.mem_wf_pushed _ hm) (by simp)
  | intr target hr hq => exact inv_of_not_eiPending (State.mem_wf_pushed _ hm) (by simp)
  | halted hr hq hh => exact inv_of_not_eiPending hm rfl
  | instruction i s1 hr hq hh hf hx =>
    have hctl := hf.same.ctl
    exact exec_inv (hf.same.mem ▸ hm) (by simp [hctl]) (by simp [hctl, hh]) hx

/-! ## HALTED, IE and the latch of RST 7.5 -/

/-- Settles O55, by the turns of a step: a reset and an interrupt end the halt, and only HLT, by its opcode, enters it. -/
theorem haltIsEnteredAndLeftOnlyAsSaid : Obligations.HaltIsEnteredAndLeftOnlyAsSaid := by
  intro s t h
  cases turn_of_step h with
  | reset hr => simp [hr, State.resetEvent, Control.reset]
  | vectored src hr hq => simp [hq]
  | intr target hr hq => simp [hq]
  | halted hr hq hh => simp [hr, hq, hh]
  | instruction i s1 hr hq hh hf hx =>
    have hopcode : i.form = .hlt ↔ s.sampled.readByte s.pc = 0x76 := ⟨fun hi => hf.readByte_eq hi rfl rfl, hf.hlt⟩
    simp [(exec_updates hx).ctl, controlAfter_halted, hf.same.ctl, hr, hq, hh, hopcode]

/-- Settles O56, by the turns of a step: of the fetched instructions only EI and DI write IE. -/
theorem enableChangesOnlyAsSaid : Obligations.EnableChangesOnlyAsSaid := by
  intro s t h hne
  cases turn_of_step h with
  | reset hr => exact .inl hr
  | vectored src hr hq => exact .inr (.inl (by simp [hq]))
  | intr target hr hq => exact .inr (.inl (by simp [hq]))
  | halted hr hq hh => exact absurd rfl hne
  | instruction i s1 hr hq hh hf hx =>
    have hie : (controlAfter i.form s1).ie ≠ s1.ctl.ie := by
      rwa [← (exec_updates hx).ctl, hf.same.ctl]
    have hopcode : s.sampled.readByte s.pc = 0xFB ∨ s.sampled.readByte s.pc = 0xF3 :=
      (controlAfter_ie hie).imp (fun hi => hf.readByte_eq hi rfl rfl) fun hi => hf.readByte_eq hi rfl rfl
    exact .inr (.inr ⟨by simp [State.fetches, hr, hq, hh], hopcode⟩)

/-- Settles O57, by the turns of a step, from the boundary that has latched the edge: of the interrupts only RST 7.5, and of
the instructions only SIM, clears the latch. -/
theorem rst75RequestStaysLatched : Obligations.Rst75RequestStaysLatched := by
  intro s t h hreq
  have hl : s.sampled.ctl.l75 = true := by simpa using hreq
  cases turn_of_step h with
  | reset hr => exact .inr (.inl hr)
  | vectored src hr hq =>
    by_cases hsrc : src = .rst75
    · exact .inr (.inr (.inl (hsrc ▸ hq)))
    · exact .inl (by rwa [State.setPc_ctl, State.pushed_ctl, State.setCtl_ctl, enter_l75 hsrc])
  | intr target hr hq => exact .inl (by rwa [State.setPc_ctl, State.pushed_ctl])
  | halted hr hq hh => exact .inl hl
  | instruction i s1 hr hq hh hf hx =>
    obtain hlatch | ⟨hi, ha⟩ := controlAfter_l75 (f := i.form) (hf.same.ctl ▸ hl)
    · exact .inl ((exec_updates hx).ctl ▸ hlatch)
    · rw [hf.same.reg] at ha
      exact .inr (.inr (.inr ⟨by simp [State.fetches, hr, hq, hh], hf.readByte_eq hi rfl rfl, ha⟩))

end Sys2Proof.Machine
end

section
/-! The flags: an instruction run from a state with other flags. One equation says both what each instruction leaves of the
flags and that those it does not read have no influence. -/

namespace Sys2Proof.Machine
open Sys2Proof

/-! ## Flags by name -/

theorem Flags.get_set (g : Flags) (x y : Flag) (b : Bool) : (g.set x b).get y = if y = x then b else g.get y := by
  cases x <;> cases y <;> rfl

/-- Flags that read alike under every name are equal. -/
theorem Flags.ext_get {g h : Flags} (hgh : ∀ x, g.get x = h.get x) : g = h := by
  cases g; cases h
  have := hgh .cf; have := hgh .af; have := hgh .zf; have := hgh .sf; have := hgh .pf
  simp_all [Flags.get]

/-- A flag after an instruction: `old` if the table says it is kept, else what the instruction computed. -/
def FlagEffect.pick (e : FlagEffect) (old new : Bool) : Bool :=
  match e with
  | .kept => old
  | _ => new

/-- The flags `new` an instruction of form `f` computed, with those it keeps taken from `old`. -/
def mergeFlags (f : Form) (old new : Flags) : Flags :=
  { cf := (flagEffect f .cf).pick old.cf new.cf
    af := (flagEffect f .af).pick old.af new.af
    zf := (flagEffect f .zf).pick old.zf new.zf
    sf := (flagEffect f .sf).pick old.sf new.sf
    pf := (flagEffect f .pf).pick old.pf new.pf }

theorem mergeFlags_get (f : Form) (old new : Flags) (x : Flag) :
    (mergeFlags f old new).get x = if flagEffect f x = .kept then old.get x else new.get x := by
  have hpick : ∀ (e : FlagEffect) (a b : Bool), e.pick a b = if e = .kept then a else b := by
    intro e a b
    cases e <;> rfl
  rw [← hpick]
  cases x <;> rfl

/-! ## A result with its state changed -/

/-- The result with its next state, if there is one, changed by `φ`. -/
def onNext (φ : State → State) : Result → Result
  | .next t => .next (φ t)
  | .fault r => .fault r
  | .refused r => .refused r

theorem State.pair_setFlags (s : State) (g : Flags) (p : Pair) : (s.setFlags g).pair p = s.pair p := by
  cases p <;> rfl

theorem State.afterRead_setFlags (s : State) (g : Flags) (a : Word) :
    (s.setFlags g).afterRead a = (s.afterRead a).setFlags g := by
  have hkind : (s.setFlags g).kindAt a = s.kindAt a := rfl
  unfold State.afterRead
  rw [hkind]
  split <;> rfl

theorem State.afterWrite_setFlags (s : State) (g : Flags) (a : Word) (v : Byte) :
    (s.setFlags g).afterWrite a v = (s.afterWrite a v).setFlags g := by
  have hkind : (s.setFlags g).kindAt a = s.kindAt a := rfl
  unfold State.afterWrite
  rw [hkind]
  split <;> rfl

/-- A read made with other flags: the same read, if what follows goes along. -/
theorem load_setFlags {φ : State → State} {s : State} {g : Flags} {a : Word} {k k' : Byte → State → Result}
    (hk : ∀ v t, t.flags = s.flags → k v (t.setFlags g) = onNext φ (k' v t)) :
    load (s.setFlags g) a k = onNext φ (load s a k') := by
  have hpresent : (s.setFlags g).present a = s.present a := rfl
  unfold load
  rw [hpresent, State.afterRead_setFlags]
  split
  · exact hk _ _ (State.afterRead_flags s a)
  · rfl

/-- A write made with other flags. -/
theorem store_setFlags {φ : State → State} {s : State} {g : Flags} {a : Word} {v : Byte} {k k' : State → Result}
    (hk : ∀ t, t.flags = s.flags → k (t.setFlags g) = onNext φ (k' t)) :
    store (s.setFlags g) a v k = onNext φ (store s a v k') := by
  have hpresent : (s.setFlags g).present a = s.present a := rfl
  unfold store
  rw [hpresent, State.afterWrite_setFlags]
  split
  · exact hk _ (State.afterWrite_flags s a v)
  · rfl

theorem push16_setFlags {φ : State → State} {s : State} {g : Flags} {w : Word} {k k' : State → Result}
    (hk : ∀ t, t.flags = s.flags → k (t.setFlags g) = onNext φ (k' t)) :
    push16 (s.setFlags g) w k = onNext φ (push16 s w k') :=
  store_setFlags (s := s.setSp (s.sp - 1)) fun t ht =>
    store_setFlags (s := t.setSp (t.sp - 1)) fun u hu => hk u (hu.trans ht)

theorem pop16_setFlags {φ : State → State} {s : State} {g : Flags} {k k' : Word → State → Result}
    (hk : ∀ w t, t.flags = s.flags → k w (t.setFlags g) = onNext φ (k' w t)) :
    pop16 (s.setFlags g) k = onNext φ (pop16 s k') :=
  load_setFlags fun _ t ht =>
    load_setFlags (s := t.setSp (t.sp + 1)) fun _ u hu => hk _ (u.setSp (u.sp + 1)) (hu.trans ht)

theorem callTo_setFlags (s : State) (g : Flags) (ret target : Word) :
    callTo (s.setFlags g) ret target = onNext (·.setFlags g) (callTo s ret target) :=
  push16_setFlags fun _ _ => rfl

theorem returnFromStack_setFlags (s : State) (g : Flags) :
    returnFromStack (s.setFlags g) = onNext (·.setFlags g) (returnFromStack s) :=
  pop16_setFlags fun _ _ _ => rfl

theorem loadOperand_setFlags {φ : State → State} {s : State} {g : Flags} {x : Operand} {k k' : Byte → State → Result}
    (hk : ∀ v t, t.flags = s.flags → k v (t.setFlags g) = onNext φ (k' v t)) :
    loadOperand x (s.setFlags g) k = onNext φ (loadOperand x s k') := by
  cases x with
  | reg r => exact hk _ _ rfl
  | mem => exact load_setFlags hk
  | imm d8 => exact hk _ _ rfl

theorem loadLoc_setFlags {φ : State → State} {s : State} {g : Flags} {x : Loc} {k k' : Byte → State → Result}
    (hk : ∀ v t, t.flags = s.flags → k v (t.setFlags g) = onNext φ (k' v t)) :
    loadLoc x (s.setFlags g) k = onNext φ (loadLoc x s k') := by
  cases x with
  | reg r => exact hk _ _ rfl
  | mem => exact load_setFlags hk

theorem storeLoc_setFlags {φ : State → State} {s : State} {g : Flags} {x : Loc} {v : Byte} {k k' : State → Result}
    (hk : ∀ t, t.flags = s.flags → k (t.setFlags g) = onNext φ (k' t)) :
    storeLoc x v (s.setFlags g) k = onNext φ (storeLoc x v s k') := by
  cases x with
  | reg r => exact hk (s.setReg r v) rfl
  | mem => exact store_setFlags hk

/-! ## The computations that read flags -/

/-- The carry an operation reads in its table row (10_state.md R29) is all it takes of the flags. -/
theorem alu_congr {op : AluOp} {x : Operand} (a v : Byte) {g h : Flags}
    (hg : ∀ y, readsFlag (.alu op x) y = true → g.get y = h.get y) : alu op a v g = alu op a v h := by
  cases op with
  | adc =>
    have hcf : g.cf = h.cf := hg .cf rfl
    simp [alu, hcf]
  | sbb =>
    have hcf : g.cf = h.cf := hg .cf rfl
    simp [alu, hcf]
  | _ => rfl

theorem daa_congr (a : Byte) {g h : Flags} (hcf : g.cf = h.cf) (haf : g.af = h.af) : daa a g = daa a h := by
  simp [daa, hcf, haf]

/-- A condition reads its own flag only. -/
theorem holds_congr {cc : Cond} {g h : Flags} (hg : g.get (condFlag cc) = h.get (condFlag cc)) :
    g.holds cc = h.holds cc := by
  rw [Bool.eq_iff_iff, holds_iff, holds_iff, hg]

/-- No flag is kept by an 8-bit operation on A. -/
theorem mergeFlags_alu (op : AluOp) (x : Operand) (old new : Flags) : mergeFlags (.alu op x) old new = new := by
  cases op <;> rfl

theorem operateOnA_setFlags {op : AluOp} {x : Operand} {s : State} {g : Flags}
    (hg : ∀ y, readsFlag (.alu op x) y = true → g.get y = s.flags.get y) :
    operateOnA op x (s.setFlags g) =
      onNext (fun t => t.setFlags (mergeFlags (.alu op x) g t.flags)) (operateOnA op x s) := by
  refine loadOperand_setFlags fun v t ht => ?_
  have halu : alu op (t.reg .a) v g = alu op (t.reg .a) v t.flags := alu_congr _ _ (ht ▸ hg)
  simp only [State.setFlags_reg, State.setFlags_flags, halu, onNext, mergeFlags_alu]
  rfl

/-! ## Every instruction -/

/-- An instruction run with other flags `g`, which agree on every flag it reads, does the same, and the flags it keeps
are those of `g`. -/
theorem formMeaning_setFlags {f : Form} {s : State} {g : Flags}
    (hg : ∀ x, readsFlag f x = true → g.get x = s.flags.get x) :
    formMeaning f (s.setFlags g) = onNext (fun t => t.setFlags (mergeFlags f g t.flags)) (formMeaning f s) := by
  cases f with
  | mov dst src => rfl
  | movFromM dst =>
    simp only [formMeaning, movLoad]
    exact load_setFlags fun _ _ _ => rfl
  | movToM src =>
    simp only [formMeaning, movStore]
    exact store_setFlags fun _ _ => rfl
  | mvi x d8 =>
    simp only [formMeaning, moveImm]
    exact storeLoc_setFlags fun _ _ => rfl
  | lda a =>
    simp only [formMeaning, execLda]
    exact load_setFlags fun _ _ _ => rfl
  | ldax p =>
    simp only [formMeaning, loadIndexed, State.pair_setFlags]
    exact load_setFlags fun _ _ _ => rfl
  | lxi p w => cases p <;> rfl
  | lhld a =>
    simp only [formMeaning, execLhld]
    exact load_setFlags fun _ _ _ => load_setFlags fun _ _ _ => rfl
  | sta a =>
    simp only [formMeaning, execSta]
    exact store_setFlags fun _ _ => rfl
  | stax p =>
    simp only [formMeaning, storeIndexed, State.pair_setFlags]
    exact store_setFlags fun _ _ => rfl
  | shld a =>
    simp only [formMeaning, execShld]
    exact store_setFlags fun _ _ => store_setFlags fun _ _ => rfl
  | sphl => rfl
  | xchg => rfl
  | xthl =>
    simp only [formMeaning, execXthl]
    exact load_setFlags fun _ _ _ => load_setFlags fun _ _ _ => store_setFlags fun _ _ => store_setFlags fun _ _ => rfl
  | push p =>
    simp only [formMeaning, pushPair, State.pair_setFlags]
    exact push16_setFlags fun _ _ => rfl
  | pushPsw =>
    have hgs : g = s.flags := Flags.ext_get fun x => hg x rfl
    subst hgs
    simp only [formMeaning, execPushPSW]
    exact push16_setFlags (s := s.drawn) fun _ _ => rfl
  | pop p =>
    simp only [formMeaning, popPair]
    exact pop16_setFlags fun _ _ _ => by cases p <;> rfl
  | popPsw =>
    simp only [formMeaning, execPopPSW]
    exact pop16_setFlags fun _ _ _ => rfl
  | outPort p => rfl
  | inPort p => rfl
  | alu op x => exact operateOnA_setFlags hg
  | daa =>
    have hdaa : daa (s.reg .a) g = daa (s.reg .a) s.flags := daa_congr _ (hg .cf rfl) (hg .af rfl)
    simp only [formMeaning, execDaa, State.setFlags_reg, State.setFlags_flags, hdaa]
    rfl
  | dad p => cases p <;> rfl
  | inr x =>
    simp only [formMeaning, increment]
    exact loadLoc_setFlags fun _ _ _ => storeLoc_setFlags fun _ _ => rfl
  | inx p => cases p <;> rfl
  | dcr x =>
    simp only [formMeaning, decrement]
    exact loadLoc_setFlags fun _ _ _ => storeLoc_setFlags fun _ _ => rfl
  | dcx p => cases p <;> rfl
  | cma => rfl
  | cmc =>
    have hcf : g.cf = s.flags.cf := hg .cf rfl
    simp only [formMeaning, execCmc, State.setFlags_flags, hcf]
    rfl
  | stc => rfl
  | rlc => rfl
  | ral =>
    have hcf : g.cf = s.flags.cf := hg .cf rfl
    simp only [formMeaning, execRal, State.setFlags_flags, State.setFlags_reg, hcf]
    rfl
  | rrc => rfl
  | rar =>
    have hcf : g.cf = s.flags.cf := hg .cf rfl
    simp only [formMeaning, execRar, State.setFlags_flags, State.setFlags_reg, hcf]
    rfl
  | jmp a => rfl
  | jcc cc a =>
    have hcc : g.holds cc = s.flags.holds cc := holds_congr (hg _ (beq_self_eq_true _))
    simp only [formMeaning, jumpIf, State.setFlags_flags, hcc]
    split <;> rfl
  | call a => exact callTo_setFlags s g _ _
  | ccc cc a =>
    have hcc : g.holds cc = s.flags.holds cc := holds_congr (hg _ (beq_self_eq_true _))
    simp only [formMeaning, callIf, State.setFlags_flags, hcc]
    split
    · exact callTo_setFlags s g _ _
    · rfl
  | ret => exact returnFromStack_setFlags s g
  | rcc cc =>
    have hcc : g.holds cc = s.flags.holds cc := holds_congr (hg _ (beq_self_eq_true _))
    simp only [formMeaning, returnIf, State.setFlags_flags, hcc]
    split
    · exact returnFromStack_setFlags s g
    · rfl
  | rst n => exact callTo_setFlags s g _ _
  | pchl => rfl
  | di => rfl
  | ei => rfl
  | sim => rfl
  | rim => rfl
  | hlt => rfl
  | nop => rfl
  | undefined b => rfl

theorem exec_setFlags {i : Instr} {s t : State} {g : Flags}
    (hg : ∀ x, readsFlag i.form x = true → g.get x = s.flags.get x) (h : exec i s = .next t) :
    exec i (s.setFlags g) = .next (t.setFlags (mergeFlags i.form g t.flags)) := by
  rw [exec_eq_formMeaning] at h
  rw [exec_eq_formMeaning, formMeaning_setFlags hg, h]
  rfl

/-- A flag the table marks as kept is kept: run the instruction from its own state with its own flags. -/
theorem exec_flag_kept {i : Instr} {s t : State} {x : Flag} (h : exec i s = .next t)
    (hx : flagEffect i.form x = .kept) : t.flags.get x = s.flags.get x := by
  have hrun : exec i s = .next (t.setFlags (mergeFlags i.form s.flags t.flags)) := exec_setFlags (fun _ _ => rfl) h
  have ht : t = t.setFlags (mergeFlags i.form s.flags t.flags) := Host.Outcome.next.inj (h.symm.trans hrun)
  rw [ht, State.setFlags_flags, mergeFlags_get, if_pos hx]

/-! ## Flags that are always cleared or set -/

/-- The flags of an 8-bit operation on A are those `alu` computes. -/
theorem operateOnA_flags {op : AluOp} {x : Operand} {s t : State} (h : operateOnA op x s = .next t) :
    ∃ a v g, t.flags = (alu op a v g).2 := by
  cases x with
  | mem =>
    simp only [operateOnA, loadOperand, load_next] at h
    obtain ⟨-, h⟩ := h
    obtain rfl := Host.Outcome.next.inj h
    exact ⟨_, _, _, rfl⟩
  | _ =>
    obtain rfl := Host.Outcome.next.inj h
    exact ⟨_, _, _, rfl⟩

theorem alu_flag_zero {op : AluOp} {x : Operand} {y : Flag} (h : flagEffect (.alu op x) y = .zero) (a v : Byte)
    (g : Flags) : (alu op a v g).2.get y = false := by
  cases op <;> cases y <;> simp_all [flagEffect, alu, Flags.ofLogic, Flags.get]

theorem alu_flag_one {op : AluOp} {x : Operand} {y : Flag} (h : flagEffect (.alu op x) y = .one) (a v : Byte)
    (g : Flags) : (alu op a v g).2.get y = true := by
  cases op <;> cases y <;> simp_all [flagEffect, alu, Flags.ofLogic, Flags.get]

/-- Only logical operations on A always clear a flag. -/
theorem exists_alu_of_flagEffect_zero {f : Form} {y : Flag} (h : flagEffect f y = .zero) : ∃ op x, f = .alu op x := by
  unfold flagEffect at h
  split at h <;> simp_all

/-- Only logical operations on A, and STC, always set a flag. -/
theorem alu_or_stc_of_flagEffect_one {f : Form} {y : Flag} (h : flagEffect f y = .one) :
    (∃ op x, f = .alu op x) ∨ f = .stc ∧ y = .cf := by
  unfold flagEffect at h
  split at h <;> simp_all

theorem exec_flag_zero {i : Instr} {s t : State} {y : Flag} (h : exec i s = .next t)
    (hy : flagEffect i.form y = .zero) : t.flags.get y = false := by
  obtain ⟨op, x, hf⟩ := exists_alu_of_flagEffect_zero hy
  rw [exec_eq_formMeaning, hf] at h
  obtain ⟨a, v, g, ht⟩ := operateOnA_flags h
  rw [ht]
  exact alu_flag_zero (hf ▸ hy) a v g

theorem exec_flag_one {i : Instr} {s t : State} {y : Flag} (h : exec i s = .next t)
    (hy : flagEffect i.form y = .one) : t.flags.get y = true := by
  rw [exec_eq_formMeaning] at h
  obtain ⟨op, x, hf⟩ | ⟨hf, rfl⟩ := alu_or_stc_of_flagEffect_one hy
  · rw [hf] at h
    obtain ⟨a, v, g, ht⟩ := operateOnA_flags h
    rw [ht]
    exact alu_flag_one (hf ▸ hy) a v g
  · rw [hf] at h
    obtain rfl := Host.Outcome.next.inj h
    rfl

/-! ## The statements -/

/-- The entry of an interrupt writes no flag. -/
theorem step_flags_of_request {s t : State} (hr : s.event.reset = false) (hq : s.request ≠ none)
    (h : step s = .next t) : t.flags = s.flags := by
  cases turn_of_step h with
  | reset hr' => simp [hr] at hr'
  | vectored src => simp
  | intr target => simp
  | halted _ hq' => exact absurd hq' hq
  | instruction _ _ _ hq' => exact absurd hq' hq

/-- Settles O53: one lemma for each of the three rows of the legend, and one for the entry of an interrupt. -/
theorem flagsChangeOnlyAsTheTableSays : Obligations.FlagsChangeOnlyAsTheTableSays :=
  ⟨fun _ _ _ _ h => ⟨exec_flag_kept h, exec_flag_zero h, exec_flag_one h⟩, fun _ _ => step_flags_of_request⟩

/-- Settles O54: the run from the changed flag ends in `t` with the kept flags taken from the changed ones, and only the
changed flag can differ there. -/
theorem unreadFlagsHaveNoInfluence : Obligations.UnreadFlagsHaveNoInfluence := by
  intro i x b s t hx h
  have hg : ∀ y, readsFlag i.form y = true → (s.flags.set x b).get y = s.flags.get y := by
    intro y hy
    have hne : y ≠ x := fun hyx => by simp [hyx, hx] at hy
    rw [Flags.get_set, if_neg hne]
  refine ⟨_, exec_setFlags hg h, ?_, ?_⟩
  · have hflags : (mergeFlags i.form (s.flags.set x b) t.flags).set x (t.flags.get x) = t.flags := by
      refine Flags.ext_get fun y => ?_
      rw [Flags.get_set, mergeFlags_get, Flags.get_set]
      by_cases hyx : y = x
      · rw [if_pos hyx, hyx]
      · by_cases hk : flagEffect i.form y = .kept
        · simp [hyx, hk, exec_flag_kept h hk]
        · simp [hyx, hk]
    rw [State.setFlags_flags, hflags]
    rfl
  · by_cases hk : flagEffect i.form x = .kept
    · exact .inr hk
    · exact .inl (by rw [State.setFlags_flags, mergeFlags_get, if_neg hk])

end Sys2Proof.Machine
end

section
/-! The memory map over one step: what one access does for each kind of address, and what every step keeps of the map, of
the bytes that are not RAM, of the outputs and of the count of draws. -/

namespace Sys2Proof.Machine
open Sys2Proof

section
variable {s t : State} {a : Word}

/-! ## One access, by the kind of its address (20_memory.md R74, D4) -/

theorem State.present_of_kindAt {kind : RegionKind} (hk : s.kindAt a = kind) (hne : kind ≠ .absent) :
    s.present a = true := by
  simp [State.present, hk, hne]

theorem State.not_present_of_absent (hk : s.kindAt a = .absent) : s.present a = false := by
  simp [State.present, hk]

theorem State.readByte_of_not_device (hk : s.kindAt a ≠ .device) : s.readByte a = s.byteAt a := if_neg hk

theorem State.readByte_of_device (hk : s.kindAt a = .device) :
    s.readByte a = Config.deviceByte s.draws a.toNat := if_pos hk

theorem State.afterRead_of_not_device (hk : s.kindAt a ≠ .device) : s.afterRead a = s := if_neg hk

theorem State.afterRead_of_device (hk : s.kindAt a = .device) : s.afterRead a = s.drawn := if_pos hk

theorem State.afterWrite_of_ram (hk : s.kindAt a = .ram) (v : Byte) :
    s.afterWrite a v = { s with mem := s.mem.write a.toNat v } := by
  simp [State.afterWrite, hk]

theorem State.afterWrite_of_rom (hk : s.kindAt a = .rom) (v : Byte) : s.afterWrite a v = s := by
  simp [State.afterWrite, hk]

theorem State.afterWrite_of_device (hk : s.kindAt a = .device) (v : Byte) :
    s.afterWrite a v = s.emit (.device a v) := by
  simp [State.afterWrite, hk]

/-- A read of RAM or ROM answers the cell and changes nothing. -/
theorem load_cell {kind : RegionKind} (hk : s.kindAt a = kind) (hd : kind ≠ .device) (ha : kind ≠ .absent)
    (k : Byte → State → Result) : load s a k = k (s.byteAt a) s := by
  subst hk
  rw [load_present (State.present_of_kindAt rfl ha), State.readByte_of_not_device hd, State.afterRead_of_not_device hd]

/-- A read of a device answers the environment's byte, which is a draw. -/
theorem load_device (hk : s.kindAt a = .device) (k : Byte → State → Result) :
    load s a k = k (Config.deviceByte s.draws a.toNat) s.drawn := by
  rw [load_present (State.present_of_kindAt hk (by decide)), State.readByte_of_device hk, State.afterRead_of_device hk]

theorem store_rom (hk : s.kindAt a = .rom) (v : Byte) (k : State → Result) : store s a v k = k s := by
  rw [store_present (State.present_of_kindAt hk (by decide)), State.afterWrite_of_rom hk]

theorem store_device (hk : s.kindAt a = .device) (v : Byte) (k : State → Result) :
    store s a v k = k (s.emit (.device a v)) := by
  rw [store_present (State.present_of_kindAt hk (by decide)), State.afterWrite_of_device hk]

/-- A write to RAM stores the byte there, keeps every other cell, and changes nothing but memory. -/
theorem store_ram (hk : s.kindAt a = .ram) (v : Byte) (k : State → Result) :
    ∃ t, store s a v k = k t ∧ t.byteAt a = v ∧ (∀ b, b ≠ a → t.byteAt b = s.byteAt b) ∧
      t = { s with mem := t.mem } := by
  refine ⟨s.afterWrite a v, store_present (State.present_of_kindAt hk (by decide)) v k, ?_, fun b hb => ?_, ?_⟩
  · rw [State.byteAt_afterWrite, if_pos ⟨hk, rfl⟩]
  · rw [State.byteAt_afterWrite, if_neg fun h => hb h.2]
  · rw [State.afterWrite_of_ram hk]

/-! ## What respects the memory map -/

/-- Between `s` and `t` the map was kept and at most RAM was written, outputs were added and free values drawn. -/
structure RespectsMap (s t : State) : Prop where
  map : t.memMap = s.memMap
  cells : ∀ a, s.kindAt a ≠ .ram → t.byteAt a = s.byteAt a
  outputs : s.trace <+: t.trace
  draws : s.draws ≤ t.draws

namespace RespectsMap

/-- An update that leaves map and memory alone. -/
theorem of_mem (map : t.memMap = s.memMap) (mem : t.mem = s.mem) (outputs : s.trace <+: t.trace)
    (draws : s.draws ≤ t.draws) : RespectsMap s t :=
  ⟨map, fun a _ => State.byteAt_congr mem a, outputs, draws⟩

/-- An update of registers, PC, SP, flags, control cells or coming events. -/
theorem of_eq (map : t.memMap = s.memMap) (mem : t.mem = s.mem) (trace : t.trace = s.trace)
    (draws : t.draws = s.draws) : RespectsMap s t :=
  of_mem map mem (trace ▸ List.prefix_rfl) draws.ge

theorem trans {u : State} (h : RespectsMap s t) (h' : RespectsMap t u) : RespectsMap s u where
  map := h'.map.trans h.map
  cells a ha := (h'.cells a (State.kindAt_congr h.map a ▸ ha)).trans (h.cells a ha)
  outputs := h.outputs.trans h'.outputs
  draws := h.draws.trans h'.draws

theorem afterRead (h : RespectsMap s t) (a : Word) : RespectsMap s (t.afterRead a) :=
  h.trans (of_mem (by simp) (by simp) (by simp) (by simp [State.draws_afterRead]))

theorem afterWrite (h : RespectsMap s t) (a : Word) (v : Byte) : RespectsMap s (t.afterWrite a v) := by
  refine h.trans ⟨by simp, fun b hb => ?_, ⟨_, (State.trace_afterWrite t a v).symm⟩, by simp⟩
  have hother : ¬(t.kindAt a = .ram ∧ b = a) := fun ⟨hram, hba⟩ => hb (hba ▸ hram)
  rw [State.byteAt_afterWrite, if_neg hother]

theorem setSp (h : RespectsMap s t) (w : Word) : RespectsMap s (t.setSp w) :=
  h.trans (of_eq rfl rfl rfl rfl)

/-- The entry of an interrupt: control cells written, PC pushed, PC at the target. -/
theorem called (h : RespectsMap s t) (k : Control) (ret target : Word) :
    RespectsMap s (((t.setCtl k).pushed ret).setPc target) := by
  have hctl : RespectsMap s (t.setCtl k) := h.trans (of_eq rfl rfl rfl rfl)
  have hpushed : RespectsMap s ((t.setCtl k).pushed ret) := (((hctl.setSp _).afterWrite _ _).setSp _).afterWrite _ _
  exact hpushed.trans (of_eq rfl rfl rfl rfl)

theorem sampled (s : State) : RespectsMap s s.sampled := of_eq rfl rfl rfl rfl

/-- A reset leaves everything outside the processor and draws the unspecified cells (70_reset_and_hazards.md R330). -/
theorem resetEvent (s : State) : RespectsMap s s.eventTaken.resetEvent :=
  of_mem rfl rfl List.prefix_rfl (Nat.le_succ s.draws)

end RespectsMap

/-- Each update an instruction is made of respects the map. -/
theorem Updates.respectsMap {f : Form} (h : Updates f s t) : RespectsMap s t := by
  induction h with
  | control => exact .of_eq rfl rfl rfl rfl
  | setReg _ _ _ ih | setSp _ _ ih | setPc _ _ ih | setFlags _ _ ih => exact ih.trans (.of_eq rfl rfl rfl rfl)
  | drawn _ ih => exact ih.trans (.of_mem rfl rfl List.prefix_rfl (Nat.le_succ _))
  | emit e _ ih => exact ih.trans (.of_mem rfl rfl (List.prefix_append _ _) le_rfl)
  | afterRead a _ ih => exact ih.afterRead a
  | afterWrite a v _ ih => exact ih.afterWrite a v

/-! ## The fetch and the step -/

/-- A fetch changes the state by reads only: what reads keep holds of the state it hands on. -/
theorem fetch_next_of_reads {P : State → Prop} {k : Instr → State → Result} (hread : ∀ u b, P u → P (u.afterRead b))
    (hs : P s) (h : fetch s k = .next t) : ∃ i s1, P s1 ∧ k i s1 = .next t := by
  obtain ⟨-, h⟩ := load_next.mp h
  have h1 := hread _ s.pc hs
  split at h
  · exact ⟨_, _, h1, h⟩
  · exact ⟨_, _, h1, h⟩
  · obtain ⟨-, h⟩ := load_next.mp h
    exact ⟨_, _, hread _ _ h1, h⟩
  · simp only [load_next] at h
    obtain ⟨-, -, h⟩ := h
    exact ⟨_, _, hread _ _ (hread _ _ h1), h⟩
  · obtain ⟨-, h⟩ := load_next.mp h
    split at h
    · obtain ⟨-, h⟩ := load_next.mp h
      exact ⟨_, _, hread _ _ (hread _ _ h1), h⟩
    · exact ⟨_, _, hread _ _ h1, h⟩

/-- With no reset, no interrupt and no halt, a step is a fetch and the fetched instruction. -/
theorem step_eq_fetch (hr : s.event.reset = false) (hq : s.request = none) (hh : s.ctl.halted = false) :
    step s = fetch s.sampled exec := by
  simp [step, hr, hq, hh]

/-- A fetched instruction respects the map: the fetch by its reads, the instruction by its updates. -/
theorem respectsMap_of_fetch (h : fetch s exec = .next t) : RespectsMap s t := by
  have hs : RespectsMap s s := .of_eq rfl rfl rfl rfl
  obtain ⟨i, s1, h1, hx⟩ := fetch_next_of_reads (fun _ b hu => hu.afterRead b) hs h
  exact h1.trans (exec_updates hx).respectsMap

/-- Every turn of the step respects the map. -/
theorem respectsMap_of_step (h : step s = .next t) : RespectsMap s t := by
  cases turn_of_step h with
  | reset hr => exact .resetEvent s
  | vectored src hr hq => exact (RespectsMap.sampled s).called _ _ _
  | intr target hr hq => exact (RespectsMap.sampled s).called _ _ _
  | halted hr hq hh => exact .sampled s
  | instruction i s1 hr hq hh hf hx =>
    rw [step_eq_fetch hr hq hh] at h
    exact (RespectsMap.sampled s).trans (respectsMap_of_fetch h)

end

/-! ## The statements -/

/-- Settles O58: every turn of a step respects the map. -/
theorem romStaysAndOutputsOnlyGrow : Obligations.RomStaysAndOutputsOnlyGrow := by
  intro s t h
  obtain ⟨hmap, hcells, ⟨outputs, htrace⟩, hdraws⟩ := respectsMap_of_step h
  exact ⟨hmap, hcells, ⟨outputs, htrace.symm⟩, hdraws⟩

/-- Settles O59, by one lemma for each access and kind of address. -/
theorem accessesFollowTheMemoryMap : Obligations.AccessesFollowTheMemoryMap := by
  intro s a v k k'
  refine ⟨?_, fun hk => load_device hk k, fun hk => ?_, fun hk => store_rom hk v k', fun hk => store_device hk v k',
    fun hk => store_ram hk v k'⟩
  · rintro (hk | hk) <;> exact load_cell hk (by decide) (by decide) k
  · have habsent := State.not_present_of_absent hk
    exact ⟨load_absent habsent k, store_absent habsent v k'⟩

end Sys2Proof.Machine
end

section
/-! Encoding and decoding (30_encoding.md R90 to R100). The bytes of a form, by its pattern, stand between the decoder and
the encoder: the encoder writes them, the decoder reads them, and it reads nothing else. -/

namespace Sys2Proof
open Machine

/-! ## The bytes of a form -/

/-- The code of a register as a field of an opcode. -/
def Reg.field (r : Reg) : BitVec 3 := (codeOf r).setWidth 3

/-- The code of a register or M as a field, DDD or SSS (R92). -/
def Loc.field (x : Loc) : BitVec 3 := (locCode x).setWidth 3

/-- The code of an operation as the field ALU (R91). -/
def AluOp.field (op : AluOp) : BitVec 3 := (aluCode op).setWidth 3

/-- The code of a condition as the field CCC (R94). -/
def Cond.field (cc : Cond) : BitVec 3 := (condCode cc).setWidth 3

/-- The code of a pair as the field RP (R93). -/
def Pair.field (p : Pair) : BitVec 2 := (pairCode p).setWidth 2

/-- An opcode from its bits D7 D6, D5 D4 D3 and D2 D1 D0 (R91). -/
def opcodeBits (group : BitVec 2) (mid low : BitVec 3) : Byte := group ++ mid ++ low

/-- An opcode from its bits D7 D6, its register pair D5 D4 and its low four bits (R91). -/
def opcodeBitsRP (group rp : BitVec 2) (low : BitVec 4) : Byte := group ++ rp ++ low

/-- The first byte of a form, by its pattern (R103). -/
def Form.opcode : Form → Byte
  | .mov dst src => opcodeBits 1 dst.field src.field
  | .movFromM dst => opcodeBits 1 dst.field 6
  | .movToM src => opcodeBits 1 6 src.field
  | .mvi x _ => opcodeBits 0 x.field 6
  | .lda _ => 0x3A
  | .ldax p => opcodeBitsRP 0 (pairOfIndex p).field 0xA
  | .lxi p _ => opcodeBitsRP 0 p.field 1
  | .lhld _ => 0x2A
  | .sta _ => 0x32
  | .stax p => opcodeBitsRP 0 (pairOfIndex p).field 2
  | .shld _ => 0x22
  | .sphl => 0xF9
  | .xchg => 0xEB
  | .xthl => 0xE3
  | .push p => opcodeBitsRP 3 (pairOfData p).field 5
  | .pushPsw => 0xF5
  | .pop p => opcodeBitsRP 3 (pairOfData p).field 1
  | .popPsw => 0xF1
  | .outPort _ => 0xD3
  | .inPort _ => 0xDB
  | .alu op (.reg r) => opcodeBits 2 op.field r.field
  | .alu op .mem => opcodeBits 2 op.field 6
  | .alu op (.imm _) => opcodeBits 3 op.field 6
  | .daa => 0x27
  | .dad p => opcodeBitsRP 0 p.field 9
  | .inr x => opcodeBits 0 x.field 4
  | .inx p => opcodeBitsRP 0 p.field 3
  | .dcr x => opcodeBits 0 x.field 5
  | .dcx p => opcodeBitsRP 0 p.field 0xB
  | .cma => 0x2F
  | .cmc => 0x3F
  | .stc => 0x37
  | .rlc => 0x07
  | .ral => 0x17
  | .rrc => 0x0F
  | .rar => 0x1F
  | .jmp _ => 0xC3
  | .jcc cc _ => opcodeBits 3 cc.field 2
  | .call _ => 0xCD
  | .ccc cc _ => opcodeBits 3 cc.field 4
  | .ret => 0xC9
  | .rcc cc => opcodeBits 3 cc.field 0
  | .rst n => opcodeBits 3 (.ofFin n) 7
  | .pchl => 0xE9
  | .di => 0xF3
  | .ei => 0xFB
  | .sim => 0x30
  | .rim => 0x20
  | .hlt => 0x76
  | .nop => 0x00
  | .undefined op => op

/-- The bytes of a form after the first, a word's low byte before its high byte (R95). -/
def Form.operandBytes : Form → List Byte
  | .mvi _ v | .outPort v | .inPort v | .alu _ (.imm v) => [v]
  | .lda w | .lxi _ w | .lhld w | .sta w | .shld w | .jmp w | .jcc _ w | .call w | .ccc _ w => [lo w, hi w]
  | _ => []

/-- The encoder writes the bytes of the form. -/
theorem encode_instr (f : Form) : encode f.instr = f.opcode :: f.operandBytes := by
  cases f with
  | mov dst src => cases dst <;> cases src <;> rfl
  | movFromM r | movToM r => cases r <;> rfl
  | mvi x v | inr x | dcr x =>
    cases x with
    | reg r => cases r <;> rfl
    | mem => rfl
  | alu op x =>
    cases x with
    | reg r => cases op <;> cases r <;> rfl
    | mem | imm v => cases op <;> rfl
  | ldax p | stax p | push p | pop p | lxi p w | dad p | inx p | dcx p => cases p <;> rfl
  | jcc cc w | ccc cc w | rcc cc => cases cc <;> rfl
  | rst n => revert n; decide
  | _ => rfl

/-! ## What a format reads -/

/-- The format, given those operand bytes, reads the form. -/
inductive Reads : Format → List Byte → Form → Prop
  | b1 (f : Form) : Reads (.b1 f) [] f
  | b2 (g : Byte → Form) (v : Byte) : Reads (.b2 g) [v] (g v)
  | b3 (g : Word → Form) (w : Word) : Reads (.b3 g) [lo w, hi w] (g w)
  | b3cond (cc : Cond) (g : Word → Form) (w : Word) : Reads (.b3cond cc g) [lo w, hi w] (g w)
  | none (op : Byte) : Reads (.none op) [] (.undefined op)

/-- An opcode, followed by operand bytes its format reads, decodes to the form read. -/
theorem decode_of_reads {b : Byte} {bs : List Byte} {f : Form} (h : Reads (decodeOpcode b) bs f) (rest : List Byte) :
    decode (b :: (bs ++ rest)) = .ok (f.instr, rest) := by
  generalize hd : decodeOpcode b = format at h
  cases h <;> simp [decode, hd, Form.instr]

/-- Bytes that decode are an opcode, operand bytes its format reads, and the rest. -/
theorem reads_of_decode {bytes rest : List Byte} {i : Instr} (h : decode bytes = .ok (i, rest)) :
    ∃ b bs f, bytes = b :: (bs ++ rest) ∧ i = f.instr ∧ Reads (decodeOpcode b) bs f := by
  have word (low high : Byte) : [low, high] = [lo (join high low), hi (join high low)] := by rw [lo_join, hi_join]
  unfold decode at h
  split at h
  · cases h
  next b tail =>
    refine ⟨b, ?_⟩
    split at h <;> cases h <;> rename_i hd <;> rw [hd]
    · exact ⟨[], _, rfl, rfl, .b1 _⟩
    · exact ⟨[_], _, rfl, rfl, .b2 _ _⟩
    · exact ⟨_, _, congrArg (b :: · ++ rest) (word _ _), rfl, .b3 _ _⟩
    · exact ⟨_, _, congrArg (b :: · ++ rest) (word _ _), rfl, .b3cond _ _ _⟩
    · exact ⟨[], _, rfl, rfl, .none _⟩

/-! ## The decoder reads the bytes of every form -/

/-- Every form with a length stands for a well-formed instruction. -/
theorem wellFormed_of_length {i : Instr} (h : i.form.length.isSome = true) : i.wellFormed = true := by
  cases i with
  | undefined op => cases h
  | _ => rfl

/-- The format of a form: the operand bytes it has, and the form as it depends on them (R91, R96). -/
def Form.format : Form → Format
  | .mvi x _ => .b2 (.mvi x)
  | .outPort _ => .b2 .outPort
  | .inPort _ => .b2 .inPort
  | .alu op (.imm _) => .b2 fun v => .alu op (.imm v)
  | .lda _ => .b3 .lda
  | .lxi p _ => .b3 (.lxi p)
  | .lhld _ => .b3 .lhld
  | .sta _ => .b3 .sta
  | .shld _ => .b3 .shld
  | .jmp _ => .b3 .jmp
  | .jcc cc _ => .b3cond cc (.jcc cc)
  | .call _ => .b3 .call
  | .ccc cc _ => .b3cond cc (.ccc cc)
  | .undefined op => .none op
  | f => .b1 f

/-- A form's format reads the form from its operand bytes. -/
theorem reads_format (f : Form) : Reads f.format f.operandBytes f := by
  cases f with
  | mvi x v => exact .b2 (.mvi x) v
  | outPort v => exact .b2 .outPort v
  | inPort v => exact .b2 .inPort v
  | alu op x =>
    cases x with
    | reg r | mem => exact .b1 _
    | imm v => exact .b2 (fun v => .alu op (.imm v)) v
  | lda w => exact .b3 .lda w
  | lxi p w => exact .b3 (.lxi p) w
  | lhld w => exact .b3 .lhld w
  | sta w => exact .b3 .sta w
  | shld w => exact .b3 .shld w
  | jmp w => exact .b3 .jmp w
  | jcc cc w => exact .b3cond cc (.jcc cc) w
  | call w => exact .b3 .call w
  | ccc cc w => exact .b3cond cc (.ccc cc) w
  | undefined op => exact .none op
  | _ => exact .b1 _

/-- The decoder takes the opcode of a form, whatever the codes of its fields, to the form's format. Where the form has an
operand value, the opcode is computed first, as it does not depend on it. -/
theorem decodeOpcode_opcode (f : Form) (h : f.instr.wellFormed = true) : decodeOpcode f.opcode = f.format := by
  cases f with
  | mov dst src => cases dst <;> cases src <;> rfl
  | movFromM r | movToM r => cases r <;> rfl
  | mvi x v | inr x | dcr x =>
    simp only [Form.opcode, Form.format]
    cases x with
    | reg r => cases r <;> rfl
    | mem => rfl
  | alu op x =>
    cases x with
    | reg r => cases op <;> cases r <;> rfl
    | mem | imm v =>
      simp only [Form.opcode, Form.format]
      cases op <;> rfl
  | ldax p | stax p | push p | pop p | lxi p w | dad p | inx p | dcx p =>
    simp only [Form.opcode, Form.format]
    cases p <;> rfl
  | jcc cc w | ccc cc w | rcc cc =>
    simp only [Form.opcode, Form.format]
    cases cc <;> rfl
  | rst n => fin_cases n <;> rfl
  | undefined op =>
    have hop : op ∈ undefinedOpcodes := List.contains_iff_mem.mp h
    simp only [undefinedOpcodes, List.mem_cons, List.not_mem_nil, or_false] at hop
    rcases hop with rfl | rfl | rfl | rfl | rfl | rfl | rfl | rfl | rfl | rfl <;> rfl
  | _ =>
    simp only [Form.opcode, Form.format]
    rfl

/-- The bytes of a well-formed instruction decode to it. -/
theorem decode_encode {i : Instr} (h : i.wellFormed = true) (rest : List Byte) :
    decode (encode i ++ rest) = .ok (i, rest) := by
  obtain ⟨f, rfl⟩ : ∃ f : Form, f.instr = i := ⟨i.form, instr_form i⟩
  rw [encode_instr]
  exact decode_of_reads (decodeOpcode_opcode f h ▸ reads_format f) rest

/-! ## The decoder reads nothing else -/

theorem opcodeBits_fields (b : Byte) : opcodeBits (group b) (field3 b 3) (field3 b 0) = b := by
  unfold opcodeBits group field3
  rw [BitVec.extractLsb'_append_extractLsb'_eq_extractLsb' (by rfl),
    BitVec.extractLsb'_append_extractLsb'_eq_extractLsb' (by rfl)]
  exact BitVec.extractLsb'_eq_self

theorem opcodeBitsRP_fields (b : Byte) : opcodeBitsRP (group b) (fieldRP b) (low4 b) = b := by
  unfold opcodeBitsRP group fieldRP low4
  rw [BitVec.extractLsb'_append_extractLsb'_eq_extractLsb' (by rfl),
    BitVec.extractLsb'_append_extractLsb'_eq_extractLsb' (by rfl)]
  exact BitVec.extractLsb'_eq_self

theorem field_locOf : ∀ c, (locOf c).field = c := by decide

theorem field_aluOf : ∀ c, (aluOf c).field = c := by decide

theorem field_condOf : ∀ c, (condOf c).field = c := by decide

theorem field_pairOf : ∀ c, (pairOf c).field = c := by decide

/-- An opcode of a pattern with fixed group and low bits and one field between them. -/
theorem opcodeBits_of_pattern {b : Byte} {g : BitVec 2} {mid low : BitVec 3} (hmid : mid = field3 b 3)
    (h : group b = g ∧ field3 b 0 = low) : opcodeBits g mid low = b := by
  obtain ⟨rfl, rfl⟩ := h
  rw [hmid, opcodeBits_fields]

/-- An opcode of a pattern with fixed group and low bits and a register pair between them. -/
theorem opcodeBitsRP_of_pattern {b : Byte} {g : BitVec 2} {low : BitVec 4} (h : group b = g ∧ low4 b = low) :
    opcodeBitsRP g (pairOf (fieldRP b)).field low = b := by
  obtain ⟨rfl, rfl⟩ := h
  rw [field_pairOf, opcodeBitsRP_fields]

/-- Every form the format reads has the opcode `b` and the operand bytes read. Only where the format is that of a byte that
spells no instruction has the form no length. -/
def ReadsBytesOf (b : Byte) (format : Format) : Prop :=
  ∀ bs f, Reads format bs f →
    f.opcode = b ∧ f.operandBytes = bs ∧ (f.length.isSome = true ∨ format = .none b)

/-- A pattern of fields. -/
theorem ReadsBytesOf.ite {b : Byte} {c : Prop} [Decidable c] {x y : Format} (hx : c → ReadsBytesOf b x)
    (hy : ReadsBytesOf b y) : ReadsBytesOf b (if c then x else y) :=
  iteInduction hx fun _ => hy

/-- A pattern of one byte. -/
theorem ReadsBytesOf.iteByte {b b' : Byte} {x y : Format} (hx : ReadsBytesOf b' x) (hy : ReadsBytesOf b y) :
    ReadsBytesOf b (if b = b' then x else y) :=
  .ite (fun hb => hb ▸ hx) hy

theorem ReadsBytesOf.movForm {b : Byte} (hg : group b = 1) :
    ReadsBytesOf b (.b1 (movForm (locOf (field3 b 3)) (locOf (field3 b 0)))) := by
  have hform : ∀ x y, (Sys2Proof.movForm x y).opcode = opcodeBits 1 x.field y.field ∧
      (Sys2Proof.movForm x y).operandBytes = [] ∧ (Sys2Proof.movForm x y).length.isSome = true := by
    intro x y
    cases x <;> cases y <;> exact ⟨rfl, rfl, rfl⟩
  obtain ⟨hop, hbs, hlen⟩ := hform (locOf (field3 b 3)) (locOf (field3 b 0))
  rintro _ _ ⟨⟩
  rw [field_locOf (field3 b 0)] at hop
  exact ⟨hop.trans (opcodeBits_of_pattern (field_locOf _) ⟨hg, rfl⟩), hbs, .inl hlen⟩

theorem ReadsBytesOf.aluForm {b : Byte} (hg : group b = 2) :
    ReadsBytesOf b (.b1 (.alu (aluOf (field3 b 3)) (locOf (field3 b 0)).operand)) := by
  have hform : ∀ op (x : Loc), (Form.alu op x.operand).opcode = opcodeBits 2 op.field x.field ∧
      (Form.alu op x.operand).operandBytes = [] ∧ (Form.alu op x.operand).length.isSome = true := by
    intro op x
    cases x <;> exact ⟨rfl, rfl, rfl⟩
  obtain ⟨hop, hbs, hlen⟩ := hform (aluOf (field3 b 3)) (locOf (field3 b 0))
  rintro _ _ ⟨⟩
  rw [field_locOf (field3 b 0)] at hop
  exact ⟨hop.trans (opcodeBits_of_pattern (field_aluOf _) ⟨hg, rfl⟩), hbs, .inl hlen⟩

/-- Every first byte reads only forms of its own bytes: the decoder's patterns in their order, the fields of each put
together again to the byte. -/
theorem readsBytesOf_decodeOpcode (b : Byte) : ReadsBytesOf b (decodeOpcode b) := by
  unfold decodeOpcode
  refine .iteByte ?hlt <| .ite .movForm <| .ite .aluForm <| .ite ?mvi <| .ite ?inr <| .ite ?dcr <| .ite ?lxi <|
    .ite ?dad <| .ite ?inx <| .ite ?dcx ?_
  case hlt =>
    rintro _ _ ⟨⟩
    exact ⟨rfl, rfl, .inl rfl⟩
  case mvi | inr | dcr =>
    rintro h _ _ ⟨⟩
    exact ⟨opcodeBits_of_pattern (field_locOf _) h, rfl, .inl rfl⟩
  case lxi | dad | inx | dcx =>
    rintro h _ _ ⟨⟩
    exact ⟨opcodeBitsRP_of_pattern h, rfl, .inl rfl⟩
  repeat
    refine .iteByte (by rintro _ _ ⟨⟩; exact ⟨rfl, rfl, .inl rfl⟩) ?_
  refine .ite ?imm <| .ite ?rst <| .ite ?rcc <| .ite ?jcc <| .ite ?ccc ?_
  case imm =>
    rintro h _ _ ⟨⟩
    exact ⟨opcodeBits_of_pattern (field_aluOf _) h, rfl, .inl rfl⟩
  case rst =>
    rintro h _ _ ⟨⟩
    exact ⟨opcodeBits_of_pattern rfl h, rfl, .inl rfl⟩
  case rcc | jcc | ccc =>
    rintro h _ _ ⟨⟩
    exact ⟨opcodeBits_of_pattern (field_condOf _) h, rfl, .inl rfl⟩
  repeat
    refine .iteByte (by rintro _ _ ⟨⟩; exact ⟨rfl, rfl, .inl rfl⟩) ?_
  rintro _ _ ⟨⟩
  exact ⟨rfl, rfl, .inr rfl⟩

/-- The format is that of a byte that spells no instruction. -/
def Format.isNone : Format → Bool
  | .none _ => true
  | _ => false

set_option maxRecDepth 4000 in
/-- The bytes no pattern takes are among the ten of R99. -/
theorem undefinedOpcodes_of_isNone :
    ∀ b : Byte, (decodeOpcode b).isNone = true → undefinedOpcodes.contains b = true := by
  decide

/-- A form a first byte reads stands for a well-formed instruction. -/
theorem wellFormed_of_reads {b : Byte} {bs : List Byte} {f : Form} (h : Reads (decodeOpcode b) bs f) :
    f.instr.wellFormed = true := by
  obtain ⟨-, -, hlen | hnone⟩ := readsBytesOf_decodeOpcode b bs f h
  · exact wellFormed_of_length ((form_instr f).symm ▸ hlen)
  · have hb := undefinedOpcodes_of_isNone b (by rw [hnone]; rfl)
    rw [hnone] at h
    cases h
    exact hb

/-- Bytes that decode are the bytes of a well-formed instruction and the rest. -/
theorem encode_of_decode {bytes rest : List Byte} {i : Instr} (h : decode bytes = .ok (i, rest)) :
    i.wellFormed = true ∧ bytes = encode i ++ rest := by
  obtain ⟨b, bs, f, rfl, rfl, hreads⟩ := reads_of_decode h
  obtain ⟨hop, hbs, -⟩ := readsBytesOf_decodeOpcode b bs f hreads
  refine ⟨wellFormed_of_reads hreads, ?_⟩
  rw [encode_instr, hop, hbs]
  rfl

/-! ## The statements -/

/-- Settles O37: the decoder takes the opcode of each form to its format, which reads the form from its bytes. -/
theorem decodeUndoesEncode : Obligations.DecodeUndoesEncode := fun _ rest h => decode_encode h rest

/-- Settles O38: each pattern of the decoder reads only forms whose bytes are those read. -/
theorem decodedBytesAreAnEncoding : Obligations.DecodedBytesAreAnEncoding := fun _ _ _ h => encode_of_decode h

/-- Settles O36: the two directions between bytes and instructions, for the instruction `undefined`. -/
theorem undefinedBytesAreRefused : Obligations.UndefinedBytesAreRefused := by
  refine ⟨fun op rest => ⟨fun hop => ?_, fun h => ?_⟩, fun op b bytes rest h => ?_, fun _ _ => rfl⟩
  · exact decode_encode (i := .undefined op) (List.contains_iff_mem.mpr hop) rest
  · exact List.contains_iff_mem.mp (encode_of_decode h).1
  · exact (List.cons.inj (encode_of_decode h).2).1.symm

/-- Settles O39: the decoder run on each sequence. -/
theorem sampleBytesDecode : Obligations.SampleBytesDecode :=
  ⟨rfl, rfl, rfl, rfl, rfl, rfl, rfl, rfl, rfl, rfl, rfl⟩

end Sys2Proof
end

section
/-! Where an instruction stops: an instruction that is not undefined goes on, unless an access meets an absent address. -/

namespace Sys2Proof.Machine
open Sys2Proof

/-- The result is a next state, or the refusal of an address that is absent in `s`. -/
def GoesOn (s : State) (r : Result) : Prop :=
  (∃ t, r = .next t) ∨ ∃ a, s.present a = false ∧ r = .refused (.absentAddress a)

section
variable {s t : State}

theorem GoesOn.next (t : State) : GoesOn s (.next t) := .inl ⟨t, rfl⟩

/-- A read in a state with the map of `s` goes on if all that follows does. -/
theorem GoesOn.load (ht : t.memMap = s.memMap) {a : Word} {k : Byte → State → Result}
    (hk : ∀ v u, u.memMap = s.memMap → GoesOn s (k v u)) : GoesOn s (load t a k) := by
  cases hp : t.present a with
  | true => exact load_present hp k ▸ hk _ _ ((State.afterRead_memMap t a).trans ht)
  | false => exact .inr ⟨a, State.present_congr ht a ▸ hp, load_absent hp k⟩

/-- A write in a state with the map of `s` goes on if all that follows does. -/
theorem GoesOn.store (ht : t.memMap = s.memMap) {a : Word} {v : Byte} {k : State → Result}
    (hk : ∀ u, u.memMap = s.memMap → GoesOn s (k u)) : GoesOn s (store t a v k) := by
  cases hp : t.present a with
  | true => exact store_present hp v k ▸ hk _ ((State.afterWrite_memMap t a v).trans ht)
  | false => exact .inr ⟨a, State.present_congr ht a ▸ hp, store_absent hp v k⟩

theorem GoesOn.push16 (ht : t.memMap = s.memMap) {w : Word} {k : State → Result}
    (hk : ∀ u, u.memMap = s.memMap → GoesOn s (k u)) : GoesOn s (push16 t w k) :=
  .store (t := t.setSp (t.sp - 1)) ht fun u hu => .store (t := u.setSp (u.sp - 1)) hu hk

theorem GoesOn.pop16 (ht : t.memMap = s.memMap) {k : Word → State → Result}
    (hk : ∀ w u, u.memMap = s.memMap → GoesOn s (k w u)) : GoesOn s (pop16 t k) :=
  .load ht fun _ u hu => .load (t := u.setSp (u.sp + 1)) hu fun _ u' hu' => hk _ (u'.setSp (u'.sp + 1)) hu'

theorem GoesOn.callTo (s : State) (ret target : Word) : GoesOn s (callTo s ret target) :=
  .push16 rfl fun _ _ => .next _

theorem GoesOn.returnFromStack (s : State) : GoesOn s (returnFromStack s) :=
  .pop16 rfl fun _ _ _ => .next _

theorem GoesOn.loadOperand {x : Operand} {k : Byte → State → Result}
    (hk : ∀ v u, u.memMap = s.memMap → GoesOn s (k v u)) : GoesOn s (loadOperand x s k) := by
  cases x with
  | reg r => exact hk _ _ rfl
  | mem => exact .load rfl hk
  | imm d8 => exact hk _ _ rfl

theorem GoesOn.loadLoc {x : Loc} {k : Byte → State → Result}
    (hk : ∀ v u, u.memMap = s.memMap → GoesOn s (k v u)) : GoesOn s (loadLoc x s k) := by
  cases x with
  | reg r => exact hk _ _ rfl
  | mem => exact .load rfl hk

theorem GoesOn.storeLoc (ht : t.memMap = s.memMap) {x : Loc} {v : Byte} {k : State → Result}
    (hk : ∀ u, u.memMap = s.memMap → GoesOn s (k u)) : GoesOn s (storeLoc x v t k) := by
  cases x with
  | reg r => exact hk (t.setReg r v) ht
  | mem => exact .store ht hk

theorem GoesOn.ite {c : Prop} [Decidable c] {x y : Result} (hx : GoesOn s x) (hy : GoesOn s y) :
    GoesOn s (if c then x else y) :=
  iteInduction (fun _ => hx) fun _ => hy

end

/-- Every form but `undefined` goes on: its accesses one after another, each in a state with the map it began with. -/
theorem formMeaning_goesOn {f : Form} (hf : ∀ op, f ≠ .undefined op) (s : State) : GoesOn s (formMeaning f s) := by
  cases f with
  | undefined op => exact absurd rfl (hf op)
  | movFromM _ | lda _ | ldax _ => exact .load rfl fun _ _ _ => .next _
  | movToM _ | sta _ | stax _ =>
    simp only [formMeaning, movStore, execSta, storeIndexed]
    exact .store rfl fun _ _ => .next _
  | mvi x d8 =>
    simp only [formMeaning, moveImm]
    exact .storeLoc rfl fun _ _ => .next _
  | lhld a => exact .load rfl fun _ _ hu => .load hu fun _ _ _ => .next _
  | shld a =>
    simp only [formMeaning, execShld]
    exact .store rfl fun _ hu => .store hu fun _ _ => .next _
  | xthl =>
    simp only [formMeaning, execXthl]
    exact .load rfl fun _ _ h1 => .load h1 fun _ _ h2 => .store h2 fun _ h3 => .store h3 fun _ _ => .next _
  | push p => exact .push16 rfl fun _ _ => .next _
  | pushPsw => exact .push16 (State.drawn_memMap s) fun _ _ => .next _
  | pop _ | popPsw => exact .pop16 rfl fun _ _ _ => .next _
  | alu op x =>
    simp only [formMeaning, operateOnA]
    exact .loadOperand fun _ _ _ => .next _
  | inr _ | dcr _ =>
    simp only [formMeaning, increment, decrement]
    exact .loadLoc fun _ _ hu => .storeLoc hu fun _ _ => .next _
  | jcc cc a => exact .ite (.next _) (.next _)
  | call a => exact .callTo s _ _
  | ccc cc a => exact .ite (.callTo s _ _) (.next _)
  | ret => exact .returnFromStack s
  | rcc cc => exact .ite (.returnFromStack s) (.next _)
  | rst n => exact .callTo s _ _
  | _ => exact .next _

/-- Settles O52: `undefined` is refused as such, and every other form goes on or meets an absent address. -/
theorem instructionsStopOnlyWhereTheSpecStops : Obligations.InstructionsStopOnlyWhereTheSpecStops := by
  intro i s
  by_cases hi : ∃ op, i = .undefined op
  · obtain ⟨op, rfl⟩ := hi
    exact .inr (.inl ⟨op, rfl, rfl⟩)
  · have hf : ∀ op, i.form ≠ .undefined op := fun op hop => hi ⟨op, instr_form i ▸ congrArg Form.instr hop⟩
    rw [exec_eq_formMeaning]
    exact (formMeaning_goesOn hf s).imp_right .inr

end Sys2Proof.Machine
end

section
/-! Data transfer (41_data_transfer.md R120 to R141). Each instruction ends in a state written with the updates of
`Laws/State.lean`; one lemma per kind of ending (a register loaded, a byte stored) says what such a
state holds and what it keeps of the first one. -/

namespace Sys2Proof.Machine
open Sys2Proof

section
variable {s s1 t : State} {result : Result} {a : Word} {v : Byte} {len : Nat}

/-! ## Accesses that are present -/

/-- A read, in a state with the map of `s`, of an address present in `s`. -/
theorem load_present_of_map (map : t.memMap = s.memMap) (h : s.present a = true) (k : Byte → State → Result) :
    load t a k = k (t.readByte a) (t.afterRead a) :=
  load_present ((State.present_congr map a).trans h) k

/-- A write, in a state with the map of `s`, to an address present in `s`. -/
theorem store_present_of_map (map : t.memMap = s.memMap) (h : s.present a = true) (v : Byte) (k : State → Result) :
    store t a v k = k (t.afterWrite a v) :=
  store_present ((State.present_congr map a).trans h) v k

theorem push16_present (h : s.canPush) (w : Word) (k : State → Result) : push16 s w k = k (s.pushed w) := by
  obtain ⟨hhigh, hlow⟩ := h
  rw [push16_eq, if_pos hhigh, if_pos hlow]

theorem pop16_present (h : s.canPop) (k : Word → State → Result) :
    pop16 s k = k (join s.topHigh s.topLow) s.popped := by
  obtain ⟨hlow, hhigh⟩ := h
  rw [pop16_eq, if_pos hlow, if_pos hhigh, State.poppedWord_eq]

/-! ## The top of the stack, pairs and flag bytes -/

@[simp] theorem State.afterTopRead_reg (s : State) (x : Reg) : s.afterTopRead.reg x = s.reg x := by
  simp [State.afterTopRead]
@[simp] theorem State.afterTopRead_flags (s : State) : s.afterTopRead.flags = s.flags := by simp [State.afterTopRead]
@[simp] theorem State.afterTopRead_sp (s : State) : s.afterTopRead.sp = s.sp := by simp [State.afterTopRead]
@[simp] theorem State.afterTopRead_pc (s : State) : s.afterTopRead.pc = s.pc := by simp [State.afterTopRead]
@[simp] theorem State.afterTopRead_ctl (s : State) : s.afterTopRead.ctl = s.ctl := by simp [State.afterTopRead]
@[simp] theorem State.afterTopRead_mem (s : State) : s.afterTopRead.mem = s.mem := by simp [State.afterTopRead]
@[simp] theorem State.afterTopRead_memMap (s : State) : s.afterTopRead.memMap = s.memMap := by
  simp [State.afterTopRead]
@[simp] theorem State.afterTopRead_irq (s : State) : s.afterTopRead.irq = s.irq := by simp [State.afterTopRead]
@[simp] theorem State.afterTopRead_trace (s : State) : s.afterTopRead.trace = s.trace := by simp [State.afterTopRead]

/-- The draws of a pop are those of its two reads. -/
@[simp] theorem State.popped_draws (s : State) : s.popped.draws = s.afterTopRead.draws := by rw [State.popped_eq]

@[simp] theorem State.popped_reg (s : State) (x : Reg) : s.popped.reg x = s.reg x := by simp [State.reg]

theorem State.reg_setPair_de (s : State) (w : Word) (x : Reg) :
    (s.setPair .de w).reg x = if x = .e then lo w else if x = .d then hi w else s.reg x := by
  simp [State.setPair]

theorem State.reg_setPair_hl (s : State) (w : Word) (x : Reg) :
    (s.setPair .hl w).reg x = if x = .l then lo w else if x = .h then hi w else s.reg x := by
  simp [State.setPair]

/-- The registers once DE holds the old HL and HL the old DE. -/
theorem State.reg_exchanged (s : State) (x : Reg) :
    ((s.setPair .de s.hl).setPair .hl (s.pair .de)).reg x =
      if x = .l then s.reg .e else if x = .h then s.reg .d
      else if x = .e then s.reg .l else if x = .d then s.reg .h else s.reg x := by
  have hde : s.pair .de = join (s.reg .d) (s.reg .e) := rfl
  have hhl : s.hl = join (s.reg .h) (s.reg .l) := rfl
  rw [State.reg_setPair_hl, State.reg_setPair_de, hde, hhl, hi_join, lo_join, hi_join, lo_join]

theorem State.sp_setPair (s : State) {p : Pair} (hp : p ≠ .sp) (w : Word) : (s.setPair p w).sp = s.sp := by
  cases p with
  | bc | de | hl => rfl
  | sp => exact absurd rfl hp

theorem pairOfData_ne_sp (p : DataPair) : pairOfData p ≠ .sp := by cases p <;> decide

/-- The registers of a pair other than SP make up its value. -/
theorem State.pair_congr {p : Pair} (regs : t.regs = s.regs) (hp : p ≠ .sp) : t.pair p = s.pair p := by
  cases p with
  | bc | de | hl => simp [State.pair, State.hl, regs]
  | sp => exact absurd rfl hp

/-- The five flags stand at bits 7, 6, 4, 2 and 0 of the flag byte, whatever the unused bits are (10_state.md R30). -/
theorem Flags.getLsbD_pack (g : Flags) (u : BitVec 3) :
    (g.pack u).getLsbD 7 = g.sf ∧ (g.pack u).getLsbD 6 = g.zf ∧ (g.pack u).getLsbD 4 = g.af ∧
      (g.pack u).getLsbD 2 = g.pf ∧ (g.pack u).getLsbD 0 = g.cf := by
  have h : Flags.unpack (g.pack u) = g := unpack_pack g u
  exact ⟨congrArg Flags.sf h, congrArg Flags.zf h, congrArg Flags.af h, congrArg Flags.pf h, congrArg Flags.cf h⟩

/-! ## The state an instruction ends in, where its accesses are present -/

theorem movLoad_present (h : s.present s.hl = true) (r : Reg) :
    movLoad r s = .next (((s.afterRead s.hl).setReg r (s.readByte s.hl)).advance 1) := by
  rw [movLoad, load_present h]

theorem movStore_present (h : s.present s.hl = true) (r : Reg) :
    movStore r s = .next ((s.afterWrite s.hl (s.reg r)).advance 1) := by
  rw [movStore, store_present h]

theorem moveImm_mem_present (h : s.present s.hl = true) (d8 : Byte) :
    moveImm .mem d8 s = .next ((s.afterWrite s.hl d8).advance 2) := by
  rw [moveImm, storeLoc, store_present h]

theorem execLda_present (h : s.present a = true) :
    execLda a s = .next (((s.afterRead a).setReg .a (s.readByte a)).advance 3) := by
  rw [execLda, load_present h]

theorem loadIndexed_present {p : IndexPair} (h : s.present (s.pair (pairOfIndex p)) = true) :
    loadIndexed p s = .next
      (((s.afterRead (s.pair (pairOfIndex p))).setReg .a (s.readByte (s.pair (pairOfIndex p)))).advance 1) := by
  rw [loadIndexed, load_present h]

theorem execSta_present (h : s.present a = true) : execSta a s = .next ((s.afterWrite a (s.reg .a)).advance 3) := by
  rw [execSta, store_present h]

theorem storeIndexed_present {p : IndexPair} (h : s.present (s.pair (pairOfIndex p)) = true) :
    storeIndexed p s = .next ((s.afterWrite (s.pair (pairOfIndex p)) (s.reg .a)).advance 1) := by
  rw [storeIndexed, store_present h]

theorem execLhld_present (hlow : s.present a = true) (hhigh : s.present (a + 1) = true) :
    execLhld a s = .next
      (((((s.afterRead a).afterRead (a + 1)).setReg .l (s.readByte a)).setReg .h
        ((s.afterRead a).readByte (a + 1))).advance 3) := by
  rw [execLhld, load_present hlow, load_present_of_map (s := s) (by simp) hhigh]

theorem execShld_present (hlow : s.present a = true) (hhigh : s.present (a + 1) = true) :
    execShld a s = .next (((s.afterWrite a (s.reg .l)).afterWrite (a + 1) (s.reg .h)).advance 3) := by
  rw [execShld, store_present hlow, store_present_of_map (s := s) (by simp) hhigh]

/-- XTHL: both reads, the writes at SP + 1 and at SP, then HL. -/
theorem execXthl_present (h : s.canPop) :
    execXthl s = .next
      ((((s.afterTopRead.afterWrite (s.sp + 1) (s.reg .h)).afterWrite s.sp (s.reg .l)).setPair .hl
        (join s.topHigh s.topLow)).advance 1) := by
  obtain ⟨hlow, hhigh⟩ := h
  rw [execXthl, load_present hlow, load_present_of_map (s := s) (by simp) hhigh,
    store_present_of_map (s := s) (by simp) hhigh, store_present_of_map (s := s) (by simp) hlow]
  rfl

theorem pushPair_present (h : s.canPush) (p : DataPair) :
    pushPair p s = .next ((s.pushed (s.pair (pairOfData p))).advance 1) := by
  rw [pushPair, push16_present h]

/-- PUSH PSW: the draw, then the push. -/
theorem execPushPSW_present (h : s.canPush) :
    execPushPSW s = .next
      ((s.drawn.pushed (join (s.reg .a) (s.flags.pack (Config.pswUnused s.draws)))).advance 1) := by
  have hdrawn : s.drawn.canPush := h
  rw [execPushPSW, push16_present hdrawn]

theorem popPair_present (h : s.canPop) (p : DataPair) :
    popPair p s = .next ((s.popped.setPair (pairOfData p) (join s.topHigh s.topLow)).advance 1) := by
  rw [popPair, pop16_present h]

theorem execPopPSW_present (h : s.canPop) :
    execPopPSW s = .next (((s.popped.setReg .a s.topHigh).setFlags (Flags.unpack s.topLow)).advance 1) := by
  rw [execPopPSW, pop16_present h, hi_join, lo_join]

/-! ## How an instruction ends -/

/-- An instruction that ends by loading a register, in a state with the registers, memory and PC of `s`. -/
theorem ends_loading_reg {r : Reg} (hresult : result = .next ((s1.setReg r v).advance len))
    (regs : s1.regs = s.regs) (mem : s1.mem = s.mem) (pc : s1.pc = s.pc) :
    ∃ t, result = .next t ∧ (∀ q, t.reg q = if q = r then v else s.reg q) ∧ KeepsMemory s t ∧
      t = { s1 with regs := t.regs, pc := s.pc + BitVec.ofNat 16 len } := by
  refine ⟨_, hresult, fun q => ?_, keepsMemory_of_mem mem, ?_⟩
  · have hreg : s1.reg q = s.reg q := congrArg (·.get q) regs
    rw [State.advance_reg, State.reg_setReg, hreg]
  · rw [← pc]
    rfl

/-- An instruction that ends by storing a byte. -/
theorem ends_storing_byte (hresult : result = .next ((s.afterWrite a v).advance len)) :
    ∃ t, result = .next t ∧ Stored s t a v ∧
      t = { s with mem := t.mem, trace := t.trace, pc := s.pc + BitVec.ofNat 16 len } := by
  refine ⟨_, hresult, stored_of_afterWrite rfl rfl rfl rfl rfl, ?_⟩
  apply State.ext_fields <;> simp

end

/-! ## The statements: registers -/

/-- Settles O1: MOV loads a register from a register. -/
theorem movCopiesRegister : Obligations.MovCopiesRegister := fun dst src s =>
  ⟨by cases dst <;> cases src <;> rfl, fun _ => ⟨rfl, rfl⟩, ends_loading_reg (exec_instr _ s) rfl rfl rfl⟩

/-- Settles O2: the load by `ends_loading_reg` from the state after the read, the store by `ends_storing_byte`. -/
theorem movMovesAByteAtHL : Obligations.MovMovesAByteAtHL := by
  intro r s
  refine ⟨by cases r <;> rfl, fun _ => ⟨rfl, rfl⟩, by cases r <;> rfl, fun _ => ⟨rfl, rfl⟩, fun h => ⟨?_, ?_⟩⟩
  · exact ends_loading_reg ((exec_instr _ s).trans (movLoad_present h r)) (by simp) (by simp) (by simp)
  · exact ends_storing_byte ((exec_instr _ s).trans (movStore_present h r))

/-- Settles O3: as MOV, with the byte of the instruction. -/
theorem mviLoadsTheInstructionByte : Obligations.MviLoadsTheInstructionByte := by
  intro d8 s
  refine ⟨fun r => ⟨by cases r <;> rfl, fun _ => ⟨rfl, rfl⟩, ?_⟩, rfl, fun _ => ⟨rfl, rfl⟩, fun h => ?_⟩
  · exact ends_loading_reg (exec_instr _ s) rfl rfl rfl
  · exact ends_storing_byte ((exec_instr _ s).trans (moveImm_mem_present h d8))

/-- Settles O4: A loaded from the state after the read, at an address or at a pair. -/
theorem ldaAndLdaxLoadTheAccumulator : Obligations.LdaAndLdaxLoadTheAccumulator := by
  intro s
  refine ⟨fun addr16 => ⟨rfl, fun _ => ⟨rfl, rfl⟩, fun h => ?_⟩,
    fun p => ⟨by cases p <;> rfl, fun _ => ⟨rfl, rfl⟩, fun h => ?_⟩⟩
  · exact ends_loading_reg ((exec_instr _ s).trans (execLda_present h)) (by simp) (by simp) (by simp)
  · exact ends_loading_reg ((exec_instr _ s).trans (loadIndexed_present h)) (by simp) (by simp) (by simp)

/-- Settles O7: A stored at an address or at a pair. -/
theorem staAndStaxStoreTheAccumulator : Obligations.StaAndStaxStoreTheAccumulator := by
  intro s
  refine ⟨fun addr16 => ⟨rfl, fun _ => ⟨rfl, rfl⟩, fun h => ?_⟩,
    fun p => ⟨by cases p <;> rfl, fun _ => ⟨rfl, rfl⟩, fun h => ?_⟩⟩
  · exact ends_storing_byte ((exec_instr _ s).trans (execSta_present h))
  · exact ends_storing_byte ((exec_instr _ s).trans (storeIndexed_present h))

/-- Settles O15: OUT is one output; IN loads A after the draw. -/
theorem outAndInReachThePort : Obligations.OutAndInReachThePort := fun _ s =>
  ⟨rfl, fun _ => ⟨rfl, rfl⟩, rfl, rfl, fun _ => ⟨rfl, rfl⟩,
    ends_loading_reg (s1 := s.drawn) (exec_instr _ s) rfl rfl rfl⟩

/-! ## The statements: pairs -/

/-- Settles O5: a pair written reads as the word, the other pairs and A as before. -/
theorem lxiLoadsThePair : Obligations.LxiLoadsThePair := by
  intro p d16 s
  refine ⟨by cases p <;> rfl, fun _ => ⟨rfl, rfl⟩, (s.setPair p d16).advance 3, exec_instr _ s, fun q => ?_,
    State.reg_a_setPair s p d16, keepsMemory_of_mem (State.setPair_mem s p d16), ?_⟩
  · have hpair : ((s.setPair p d16).advance 3).pair q = (s.setPair p d16).pair q := by cases q <;> rfl
    rw [hpair, State.pair_setPair]
  · apply State.ext_fields <;> simp

/-- Settles O6: two reads, then L and H written. -/
theorem lhldLoadsLThenH : Obligations.LhldLoadsLThenH := by
  intro addr16 s
  refine ⟨rfl, fun _ => ⟨rfl, rfl⟩, fun hlow hhigh =>
    ⟨_, (exec_instr _ s).trans (execLhld_present hlow hhigh), ?_, ?_, fun r hh hl => ?_, ?_, ?_⟩⟩
  · simp
  · simp
  · simp [hh, hl]
  · exact keepsMemory_of_mem (by simp)
  · apply State.ext_fields <;> simp

/-- Settles O8: the two addresses differ, so each store keeps what the other wrote. -/
theorem shldStoresLThenH : Obligations.ShldStoresLThenH := by
  intro addr16 s
  refine ⟨rfl, fun _ => ⟨rfl, rfl⟩, fun hlow hhigh =>
    ⟨_, (exec_instr _ s).trans (execShld_present hlow hhigh), ?_, ?_⟩⟩
  · exact storedTwo_of_afterWrite (s2 := s.afterWrite addr16 (s.reg .l)) (by bv_omega) rfl rfl rfl (by simp)
      rfl rfl rfl rfl
  · apply State.ext_fields <;> simp

/-- Settles O9: SPHL writes SP; XCHG writes DE and HL, each with the other's old value. -/
theorem sphlCopiesAndXchgExchanges : Obligations.SphlCopiesAndXchgExchanges := by
  intro s
  refine ⟨rfl, fun _ => ⟨rfl, rfl⟩, rfl, rfl, fun _ => ⟨rfl, rfl⟩, _, exec_instr .xchg s, ?_⟩
  have hreg := State.reg_exchanged s
  exact ⟨hreg .d, hreg .h, hreg .e, hreg .l, hreg .a, hreg .b, hreg .c, keepsMemory_of_mem rfl, rfl⟩

/-! ## The statements: the stack -/

/-- Settles O10: HL gets the word read, and the two writes are made in the state after both reads. -/
theorem xthlExchangesHLWithTheTop : Obligations.XthlExchangesHLWithTheTop := by
  intro s
  refine ⟨rfl, fun _ => ⟨rfl, rfl⟩, fun h =>
    ⟨_, (exec_instr .xthl s).trans (execXthl_present h), ?_, ?_, fun r hh hl => ?_, ?_, ?_⟩⟩
  · simp [State.reg_setPair_hl]
  · simp [State.reg_setPair_hl]
  · simp [State.reg_setPair_hl, hh, hl]
  · exact storedTwo_of_afterWrite (s1 := s.afterTopRead) (s2 := s.afterTopRead.afterWrite (s.sp + 1) (s.reg .h))
      (by bv_omega) (by simp) (by simp) (by simp) (by simp) rfl rfl (by simp) (by simp)
  · apply State.ext_fields <;> simp [State.sp_setPair]

/-- Settles O11: the state after the push, with PC moved on. -/
theorem pushStoresThePair : Obligations.PushStoresThePair := by
  intro p s
  refine ⟨by cases p <;> rfl, fun _ => ⟨rfl, rfl⟩, fun h => ?_⟩
  refine ⟨_, (exec_instr _ s).trans (pushPair_present h p), pushed_of_state rfl rfl rfl, ?_⟩
  apply State.ext_fields <;> simp

/-- Settles O12: a push, after the draw, of A and the packed flags. -/
theorem pushPswStoresAAndTheFlagByte : Obligations.PushPswStoresAAndTheFlagByte := by
  intro s
  refine ⟨rfl, fun _ => ⟨rfl, rfl⟩, fun h => ?_⟩
  obtain ⟨hsf, hzf, haf, hpf, hcf⟩ := s.flags.getLsbD_pack (Config.pswUnused s.draws)
  refine ⟨_, _, (exec_instr .pushPsw s).trans (execPushPSW_present h), hsf, hzf, haf, hpf, hcf, ?_, ?_⟩
  · exact pushed_of_state (s := s.drawn) rfl rfl rfl
  · apply State.ext_fields <;> simp

/-- Settles O13: the popped word written to the pair. -/
theorem popLoadsThePair : Obligations.PopLoadsThePair := by
  intro p s
  refine ⟨by cases p <;> rfl, fun _ => ⟨rfl, rfl⟩, fun h => ?_⟩
  refine ⟨_, (exec_instr _ s).trans (popPair_present h p), ?_, fun q hq => ?_, ?_, keepsMemory_of_mem (by simp), ?_⟩
  · rw [State.advance_sp, State.sp_setPair _ (pairOfData_ne_sp p), State.popped_sp]
  · rw [State.pair_congr (State.advance_regs _ _) hq, State.pair_setPair, State.pair_congr s.popped_regs hq]
  · rw [State.advance_reg, State.reg_a_setPair, State.popped_reg]
  · apply State.ext_fields <;> simp

/-- Settles O14: A and the five flags from the popped word. -/
theorem popPswLoadsAAndTheFlags : Obligations.PopPswLoadsAAndTheFlags := by
  intro s
  refine ⟨rfl, fun _ => ⟨rfl, rfl⟩, fun h =>
    ⟨_, (exec_instr .popPsw s).trans (execPopPSW_present h), State.popped_sp s, fun r => ?_, rfl, rfl, rfl, rfl, rfl,
      keepsMemory_of_mem (by simp), ?_⟩⟩
  · rw [State.advance_reg, State.setFlags_reg, State.reg_setReg, State.popped_reg]
  · apply State.ext_fields <;> simp

end Sys2Proof.Machine
end

section
/-! Arithmetic (42_arithmetic.md R160 to R181). The operations on A share one ending (A and the flags written), INR and DCR
one shape, INX and DCX one ending; what is left for each statement is the arithmetic of its result. -/

namespace Sys2Proof.Machine
open Sys2Proof

/-! ## The second operand -/

theorem loadOperand_present {s : State} {x : Operand} (h : operandPresent s x) (k : Byte → State → Result) :
    loadOperand x s k = k (operandValue s x) (operandRead s x) := by
  cases x with
  | reg _ | imm _ => rfl
  | mem => exact load_present h k

@[simp] theorem operandRead_regs (s : State) (x : Operand) : (operandRead s x).regs = s.regs := by
  cases x <;> simp [operandRead]
@[simp] theorem operandRead_flags (s : State) (x : Operand) : (operandRead s x).flags = s.flags := by
  cases x <;> simp [operandRead]
@[simp] theorem operandRead_pc (s : State) (x : Operand) : (operandRead s x).pc = s.pc := by
  cases x <;> simp [operandRead]
@[simp] theorem operandRead_mem (s : State) (x : Operand) : (operandRead s x).mem = s.mem := by
  cases x <;> simp [operandRead]
@[simp] theorem operandRead_reg (s : State) (x : Operand) (r : Reg) : (operandRead s x).reg r = s.reg r := by
  simp [State.reg]

theorem ofNat_operandLen (x : Operand) : BitVec.ofNat 16 (operandLen x) = operandBytes x := by cases x <;> rfl

/-! ## An instruction that ends by writing A and the flags -/

/-- The instruction ends with `r` in A and the flags, in a state with the registers, memory and PC of `s`. -/
theorem ends_writing_accumulator {s s1 : State} {result : Result} {r : Byte × Flags} {len : Nat}
    (hresult : result = .next (((s1.setReg .a r.1).setFlags r.2).advance len))
    (regs : s1.regs = s.regs) (mem : s1.mem = s.mem) (pc : s1.pc = s.pc) :
    ∃ t, result = .next t ∧ t.reg .a = r.1 ∧ t.flags = r.2 ∧ (∀ q, q ≠ .a → t.reg q = s.reg q) ∧ KeepsMemory s t ∧
      t = { s1 with regs := t.regs, flags := t.flags, pc := s.pc + BitVec.ofNat 16 len } := by
  refine ⟨_, hresult, by simp, rfl, fun q hq => ?_, keepsMemory_of_mem mem, ?_⟩
  · have hreg : s1.reg q = s.reg q := congrArg (·.get q) regs
    simp [hq, hreg]
  · rw [← pc]
    rfl

/-! ## The 8-bit operations on A -/

theorem encode_alu (op : AluOp) (x : Operand) : encode (Form.alu op x).instr = aluBytes op x := by
  cases x with
  | reg r => cases op <;> cases r <;> rfl
  | mem => cases op <;> rfl
  | imm d8 => cases op <;> rfl

theorem costs_alu (op : AluOp) (x : Operand) : Costs (.alu op x) (operandCycles x) (operandStates x) := by
  cases x <;> exact fun _ => ⟨rfl, rfl⟩

/-- An 8-bit operation whose operand can be read completes with what `alu` answers. -/
theorem exec_alu {s : State} {x : Operand} (h : operandPresent s x) (op : AluOp) :
    ∃ t, exec (Form.alu op x).instr s = .next t ∧
      t.reg .a = (alu op (s.reg .a) (operandValue s x) s.flags).1 ∧
      t.flags = (alu op (s.reg .a) (operandValue s x) s.flags).2 ∧
      (∀ r, r ≠ .a → t.reg r = s.reg r) ∧ KeepsMemory s t ∧
      t = { operandRead s x with regs := t.regs, flags := t.flags, pc := s.pc + operandBytes x } := by
  rw [← ofNat_operandLen]
  refine ends_writing_accumulator ?_ (by simp) (by simp) (by simp)
  rw [exec_instr, formMeaning, operateOnA, loadOperand_present h, operandRead_reg, operandRead_flags]

theorem zspOf_ofSum (g : Sum8) : ZSPOf (Flags.ofSum g) g.res := zspOf_setZSP _ _

/-- The carry or borrow an operation takes in: the old CF in its form with carry, else 0. -/
theorem bit_and (withCarry cf : Bool) : bit (withCarry && cf) = if withCarry then bit cf else 0 := by
  cases withCarry <;> rfl

theorem alu_add_adc (withCarry : Bool) (a v : Byte) (f : Flags) :
    alu (if withCarry then .adc else .add) a v f =
      ((add8 a v (withCarry && f.cf)).res, Flags.ofSum (add8 a v (withCarry && f.cf))) := by
  cases withCarry <;> rfl

theorem alu_sub_sbb (withBorrow : Bool) (a v : Byte) (f : Flags) :
    alu (if withBorrow then .sbb else .sub) a v f =
      ((sub8 a v (withBorrow && f.cf)).res, Flags.ofSum (sub8 a v (withBorrow && f.cf))) := by
  cases withBorrow <;> rfl

/-- The difference modulo 256 as an integer. -/
theorem sub8_res_int (a b : Byte) (c : Bool) :
    ((sub8 a b c).res.toNat : Int) = ((a.toNat : Int) - b.toNat - bit c) % 256 := by
  have := bit_le_one c
  rw [sub8_res]
  omega

/-- Settles O16: the sum of `add8`, with the old CF taken in by ADC and ACI. -/
theorem addAndAdcAdd : Obligations.AddAndAdcAdd := by
  intro withCarry x s
  refine ⟨encode_alu _ x, costs_alu _ x, fun h => ?_⟩
  obtain ⟨t, hexec, ha, hflags, hregs, hmem, ht⟩ := exec_alu h (if withCarry then .adc else .add)
  rw [alu_add_adc] at ha hflags
  refine ⟨t, hexec, ?_, ?_, ?_, ?_, hregs, hmem, ht⟩
  · rw [ha, add8_res, bit_and]
  · rw [hflags, ← bit_and]
    exact add8_cy _ _ _
  · rw [hflags, ← bit_and]
    exact add8_ac _ _ _
  · rw [ha, hflags]
    exact zspOf_ofSum _

/-- Settles O17: the difference of `sub8`, with the old CF taken off by SBB and SBI. -/
theorem subAndSbbSubtract : Obligations.SubAndSbbSubtract := by
  intro withBorrow x s
  refine ⟨encode_alu _ x, costs_alu _ x, fun h => ?_⟩
  obtain ⟨t, hexec, ha, hflags, hregs, hmem, ht⟩ := exec_alu h (if withBorrow then .sbb else .sub)
  rw [alu_sub_sbb] at ha hflags
  refine ⟨t, hexec, ?_, ?_, ?_, ?_, hregs, hmem, ht⟩
  · rw [ha, sub8_res_int, bit_and]
  · rw [hflags, ← bit_and]
    exact sub8_cy _ _ _
  · rw [hflags, ← bit_and]
    exact sub8_ac _ _ _
  · rw [ha, hflags]
    exact zspOf_ofSum _

/-! ## INR and DCR -/

/-- The sum INR or DCR makes of a byte. -/
def step8 (down : Bool) (v : Byte) : Sum8 := if down then dec8 v else inc8 v

theorem step8_res (down : Bool) (v : Byte) : (step8 down v).res = if down then v - 1 else v + 1 := by
  apply BitVec.eq_of_toNat_eq
  cases down with
  | false => exact (add8_res v 0x01 false).trans (by simp [bit])
  | true => exact (add8_res v 0xFF false).trans (by simp [bit, BitVec.toNat_sub]; omega)

theorem step8_ac (down : Bool) (v : Byte) :
    (step8 down v).ac = if down then decide (v.toNat % 16 ≠ 0) else decide (v.toNat % 16 = 15) := by
  cases down with
  | false => exact (add8_ac v 0x01 false).trans (decide_eq_decide.mpr (by simp [bit]; omega))
  | true => exact (add8_ac v 0xFF false).trans (decide_eq_decide.mpr (by simp [bit]; omega))

/-- What INR and DCR have in common: the byte stepped and stored back, then the flags. -/
def stepLoc (down : Bool) (x : Loc) (s : State) : Result :=
  loadLoc x s fun v s1 =>
    storeLoc x (step8 down v).res s1 fun s2 => .next ((s2.setFlags (s2.flags.ofStep (step8 down v))).advance 1)

theorem exec_inr_dcr (down : Bool) (x : Loc) (s : State) :
    exec (if down then Form.dcr x else Form.inr x).instr s = stepLoc down x s := by
  rw [exec_instr]
  cases down <;> rfl

theorem stepLoc_mem_present {s : State} (h : s.present s.hl = true) (down : Bool) :
    stepLoc down .mem s = .next
      ((((s.afterRead s.hl).afterWrite s.hl (step8 down (s.readByte s.hl)).res).setFlags
        (s.flags.ofStep (step8 down (s.readByte s.hl)))).advance 1) := by
  have hhl : (s.afterRead s.hl).hl = s.hl := by simp [State.hl]
  rw [stepLoc, loadLoc, load_present h, storeLoc, hhl, store_present_of_map (by simp) h]
  simp

theorem zspOf_ofStep (f : Flags) (down : Bool) (v : Byte) :
    ZSPOf (f.ofStep (step8 down v)) (if down then v - 1 else v + 1) :=
  step8_res down v ▸ zspOf_setZSP _ _

/-- Settles O18: the flags are those of the sum but for CF; its result goes back to where the byte came from. -/
theorem inrAndDcrStepTheByte : Obligations.InrAndDcrStepTheByte := by
  intro down s
  refine ⟨fun r => ⟨by cases down <;> cases r <;> rfl, by cases down <;> exact fun _ => ⟨rfl, rfl⟩, ?_⟩,
    by cases down <;> rfl, by cases down <;> exact fun _ => ⟨rfl, rfl⟩, fun h => ?_⟩
  · refine ⟨_, exec_inr_dcr down (.reg r) s, fun q => ?_, rfl, step8_ac down _, zspOf_ofStep _ down _,
      keepsMemory_of_mem rfl, rfl⟩
    beta_reduce
    rw [← step8_res]
    exact State.reg_setReg s r q _
  · refine ⟨_, (exec_inr_dcr down .mem s).trans (stepLoc_mem_present h down), ?_, rfl, step8_ac down _,
      zspOf_ofStep _ down _, ?_⟩
    · beta_reduce
      rw [← step8_res]
      exact stored_of_afterWrite (s1 := s.afterRead s.hl) (by simp) (by simp) (by simp) rfl rfl
    · apply State.ext_fields <;> simp

/-! ## INX, DCX and DAD -/

/-- An instruction that ends by writing a pair or SP. -/
theorem ends_writing_pair {s : State} {result : Result} {p : Pair} {w : Word} {len : Nat}
    (hresult : result = .next ((s.setPair p w).advance len)) :
    ∃ t, result = .next t ∧ (∀ q, t.pair q = if q = p then w else s.pair q) ∧ t.reg .a = s.reg .a ∧ KeepsMemory s t ∧
      t = { s with regs := t.regs, sp := t.sp, pc := s.pc + BitVec.ofNat 16 len } := by
  refine ⟨_, hresult, fun q => ?_, State.reg_a_setPair s p w, keepsMemory_of_mem (State.setPair_mem s p w), ?_⟩
  · have hpair : ((s.setPair p w).advance len).pair q = (s.setPair p w).pair q := by cases q <;> rfl
    rw [hpair, State.pair_setPair]
  · apply State.ext_fields <;> simp

/-- Settles O19: the pair written with its value stepped. -/
theorem inxAndDcxStepThePair : Obligations.InxAndDcxStepThePair := fun p s =>
  ⟨by cases p <;> rfl, fun _ => ⟨rfl, rfl⟩, ends_writing_pair (exec_instr (.inx p) s),
    by cases p <;> rfl, fun _ => ⟨rfl, rfl⟩, ends_writing_pair (exec_instr (.dcx p) s)⟩

/-- Settles O20: HL is written with the sum and CF with its carry. -/
theorem dadAddsThePairToHL : Obligations.DadAddsThePairToHL := by
  intro p s
  refine ⟨by cases p <;> rfl, fun _ => ⟨rfl, rfl⟩, _, exec_instr (.dad p) s, ?_, ?_, fun r hh hl => ?_,
    keepsMemory_of_mem rfl, rfl⟩
  · have hhl : ((s.setPair .hl (dad16 s.hl (s.pair p)).1).pair .hl) = s.hl + s.pair p := by
      rw [State.pair_setPair, if_pos rfl, dad16_sum]
    exact (congrArg BitVec.toNat hhl).trans (BitVec.toNat_add _ _)
  · rw [← dad16_carry]
    rfl
  · exact (State.reg_setPair_hl s _ r).trans (by rw [if_neg hl, if_neg hh])

/-! ## DAA -/

/-- Whether DAA adds 06 (42_arithmetic.md R166). -/
def fixesLow (a : Byte) (f : Flags) : Bool := decide (9 < a.toNat % 16) || f.af

/-- Whether DAA adds 60 (42_arithmetic.md R166). -/
def fixesHigh (a : Byte) (f : Flags) : Bool :=
  decide (9 < a.toNat / 16) || f.cf || (decide (9 ≤ a.toNat / 16) && decide (9 < a.toNat % 16))

/-- The byte DAA adds. -/
def daaCorrection (a : Byte) (f : Flags) : Byte :=
  (if fixesLow a f then 0x06 else 0x00) + (if fixesHigh a f then 0x60 else 0x00)

/-- DAA in terms of its correction: the sum, its carry replaced by whether 60 was added. -/
theorem daa_eq (a : Byte) (f : Flags) :
    daa a f = ((add8 a (daaCorrection a f) false).res,
      Flags.ofSum { add8 a (daaCorrection a f) false with cy := fixesHigh a f }) := by
  have ha := a.isLt
  have hlow : (a.extractLsb' 0 4).toNat = a.toNat % 16 := by simp [BitVec.extractLsb'_toNat]
  have hhigh : (a.extractLsb' 4 4).toNat = a.toNat / 16 := by
    rw [BitVec.extractLsb'_toNat, Nat.shiftRight_eq_div_pow]
    omega
  simp only [daa, hlow, hhigh]
  rfl

theorem fixesLow_iff (a : Byte) (f : Flags) : fixesLow a f = true ↔ 9 < a.toNat % 16 ∨ f.af = true := by
  simp [fixesLow]

theorem fixesHigh_iff (a : Byte) (f : Flags) :
    fixesHigh a f = true ↔ 9 < a.toNat / 16 ∨ f.cf = true ∨ (9 ≤ a.toNat / 16 ∧ 9 < a.toNat % 16) := by
  simp [fixesHigh, or_assoc]

theorem daaCorrection_toNat (a : Byte) (f : Flags) :
    (daaCorrection a f).toNat = (if fixesLow a f then 0x06 else 0) + (if fixesHigh a f then 0x60 else 0) := by
  unfold daaCorrection
  cases fixesLow a f <;> cases fixesHigh a f <;> rfl

theorem daaCorrection_low (a : Byte) (f : Flags) :
    (daaCorrection a f).toNat % 16 = if fixesLow a f then 6 else 0 := by
  unfold daaCorrection
  cases fixesLow a f <;> cases fixesHigh a f <;> rfl

theorem daa_res (a : Byte) (f : Flags) : (daa a f).1.toNat = (a.toNat + (daaCorrection a f).toNat) % 256 := by
  rw [daa_eq]
  exact add8_res _ _ _

theorem daa_cf (a : Byte) (f : Flags) : (daa a f).2.cf = fixesHigh a f := by
  rw [daa_eq]
  rfl

/-- Adding 6 carries out of bit 3 just when the low nibble exceeds 9, and then 6 is added. -/
theorem daa_af (a : Byte) (f : Flags) : (daa a f).2.af = decide (9 < a.toNat % 16) := by
  have haf : (daa a f).2.af = (add8 a (daaCorrection a f) false).ac := by
    rw [daa_eq]
    rfl
  have hiff := fixesLow_iff a f
  rw [haf, add8_ac, daaCorrection_low, decide_eq_decide, bit, if_neg Bool.false_ne_true]
  split
  case isTrue hlow => omega
  case isFalse hlow =>
    have hle : ¬ 9 < a.toNat % 16 := fun h => hlow (hiff.mpr (.inl h))
    omega

theorem zspOf_daa (a : Byte) (f : Flags) : ZSPOf (daa a f).2 (daa a f).1 := by
  rw [daa_eq]
  exact zspOf_setZSP _ _

/-- Settles O21: A and the flags are written with what `daa` answers. -/
theorem daaAddsTheCorrection : Obligations.DaaAddsTheCorrection := by
  intro s
  have hlow := fixesLow_iff (s.reg .a) s.flags
  have hhigh := fixesHigh_iff (s.reg .a) s.flags
  have hcorr := daaCorrection_toNat (s.reg .a) s.flags
  obtain ⟨t, hexec, ha, hflags, hregs, hmem, ht⟩ := ends_writing_accumulator (exec_instr .daa s) rfl rfl rfl
  refine ⟨rfl, fun _ => ⟨rfl, rfl⟩, t, hexec, ⟨_, ha ▸ daa_res _ _, ?_⟩, ?_, ?_, ?_, hregs, hmem, ht⟩
  · rw [← hlow, ← hhigh, hcorr]
    exact ⟨fun hl hh => by rw [if_pos hl, if_pos hh], fun hl hh => by rw [if_pos hl, if_neg hh],
      fun hl hh => by rw [if_neg hl, if_pos hh], fun hl hh => by rw [if_neg hl, if_neg hh]⟩
  · rw [hflags, daa_cf, hhigh]
  · rw [hflags, daa_af, decide_eq_true_eq]
  · rw [ha, hflags]
    exact zspOf_daa _ _

/-! ## DAA after an addition of packed decimal bytes -/

/-- Digits added as base 16 ones, the tens to `h` and the units, with the carry, to `l`: a digit that carries has been
counted as 16 and not as 10, so 6 is missing there. -/
theorem decimal_adjust {h l r : Nat} (hh : h ≤ 18) (hl : l ≤ 19)
    (hr : r = (16 * h + l + ((if 9 < l then 0x06 else 0) + if 99 < 10 * h + l then 0x60 else 0)) % 256) :
    r % 16 ≤ 9 ∧ r / 16 ≤ 9 ∧ 10 * (r / 16) + r % 16 + 100 * (if 99 < 10 * h + l then 1 else 0) = 10 * h + l := by
  split_ifs at hr ⊢ <;> omega

section
variable {x y : Byte} (c : Bool)

/-- DAA corrects the lower nibble just when the lower digits carry. -/
theorem fixesLow_add8 (hx : IsBcd x) (hy : IsBcd y) :
    fixesLow (add8 x y c).res (Flags.ofSum (add8 x y c)) = true ↔ 9 < x.toNat % 16 + y.toNat % 16 + bit c := by
  obtain ⟨hxl, hxh⟩ := hx
  obtain ⟨hyl, hyh⟩ := hy
  have hc := bit_le_one c
  have haf : (Flags.ofSum (add8 x y c)).af = (add8 x y c).ac := rfl
  rw [fixesLow_iff, haf, add8_res, add8_ac, decide_eq_true_eq]
  omega

/-- DAA corrects the upper nibble just when the decimal sum has a hundred. -/
theorem fixesHigh_add8 (hx : IsBcd x) (hy : IsBcd y) :
    fixesHigh (add8 x y c).res (Flags.ofSum (add8 x y c)) = true ↔ 99 < bcdValue x + bcdValue y + bit c := by
  obtain ⟨hxl, hxh⟩ := hx
  obtain ⟨hyl, hyh⟩ := hy
  have hc := bit_le_one c
  have hcf : (Flags.ofSum (add8 x y c)).cf = (add8 x y c).cy := rfl
  rw [fixesHigh_iff, hcf, add8_res, add8_cy, decide_eq_true_eq, bcdValue, bcdValue]
  omega

/-- DAA after `add8` of packed decimal bytes: the digits of the sum in A, its hundred in CF. -/
theorem daa_add8_bcd (hx : IsBcd x) (hy : IsBcd y) {r : Byte × Flags}
    (hr : r = daa (add8 x y c).res (Flags.ofSum (add8 x y c))) :
    IsBcd r.1 ∧ bcdValue r.1 + 100 * bit r.2.cf = bcdValue x + bcdValue y + bit c := by
  have hlow := fixesLow_add8 c hx hy
  have hhigh := fixesHigh_add8 c hx hy
  obtain ⟨hxl, hxh⟩ := hx
  obtain ⟨hyl, hyh⟩ := hy
  have hc := bit_le_one c
  have hsum : x.toNat + y.toNat + bit c =
      16 * (x.toNat / 16 + y.toNat / 16) + (x.toNat % 16 + y.toNat % 16 + bit c) := by omega
  have hvalue : bcdValue x + bcdValue y + bit c =
      10 * (x.toNat / 16 + y.toNat / 16) + (x.toNat % 16 + y.toNat % 16 + bit c) := by
    unfold bcdValue
    omega
  have hcf : bit r.2.cf = if 99 < bcdValue x + bcdValue y + bit c then 1 else 0 := by
    rw [hr, daa_cf]
    exact if_congr hhigh rfl rfl
  obtain ⟨hunits, htens, htotal⟩ := decimal_adjust (h := x.toNat / 16 + y.toNat / 16)
    (l := x.toNat % 16 + y.toNat % 16 + bit c) (r := r.1.toNat) (by omega) (by omega) (by
      rw [hr, daa_res, daaCorrection_toNat, add8_res, Nat.mod_add_mod, ← hsum, ← hvalue]
      simp only [hlow, hhigh])
  refine ⟨⟨hunits, htens⟩, ?_⟩
  rw [hcf, hvalue]
  exact htotal

end

/-- Settles O22: ADI or ACI, then DAA. -/
theorem daaMakesTheDecimalSum : Obligations.DaaMakesTheDecimalSum := by
  intro withCarry y s hx hy
  obtain ⟨t, hadd, hta, htf, -⟩ := exec_alu (s := s) (x := .imm y) trivial (if withCarry then .adc else .add)
  obtain ⟨u, hdaa, hua, huf, -⟩ := ends_writing_accumulator (exec_instr .daa t) rfl rfl rfl
  rw [alu_add_adc] at hta htf
  rw [hta, htf] at hua huf
  refine ⟨t, u, hadd, hdaa, ?_⟩
  rw [hua, huf, ← bit_and]
  exact daa_add8_bcd _ hx hy rfl

end Sys2Proof.Machine
end

section
/-! Logical (43_logical.md R200 to R218). AND, OR, exclusive OR and compare end as the arithmetic on A does (`exec_alu`); the
four rotates share one ending, and what is left is where each bit goes. -/

namespace Sys2Proof.Machine
open Sys2Proof

/-! ## AND, OR and exclusive OR -/

/-- The flags of the three operations are those of their result, with AF set by AND alone. -/
theorem alu_logic_flags {op : AluOp} (hop : op = .ana ∨ op = .ora ∨ op = .xra) (a v : Byte) (f : Flags) :
    (alu op a v f).2 = Flags.ofLogic (decide (op = .ana)) (alu op a v f).1 := by
  obtain rfl | rfl | rfl := hop <;> rfl

theorem alu_logic_getLsbD {op : AluOp} (hop : op = .ana ∨ op = .ora ∨ op = .xra) (a v : Byte) (f : Flags) (i : Nat) :
    (alu op a v f).1.getLsbD i =
      (if op = .ana then a.getLsbD i && v.getLsbD i
       else if op = .ora then a.getLsbD i || v.getLsbD i
       else xor (a.getLsbD i) (v.getLsbD i)) := by
  obtain rfl | rfl | rfl := hop
  · exact BitVec.getLsbD_and
  · exact BitVec.getLsbD_or
  · exact BitVec.getLsbD_xor

theorem zspOf_ofLogic (af : Bool) (v : Byte) : ZSPOf (Flags.ofLogic af v) v := zspOf_setZSP _ _

/-- Settles O23: the bits and the flags of `alu` for the three operations. -/
theorem andOrXorCombineBitwise : Obligations.AndOrXorCombineBitwise := by
  intro op x s hop
  refine ⟨encode_alu op x, costs_alu op x, fun h => ?_⟩
  obtain ⟨t, hexec, ha, hflags, hregs, hmem, ht⟩ := exec_alu h op
  rw [alu_logic_flags hop, ← ha] at hflags
  refine ⟨t, hexec, fun i => ?_, congrArg Flags.cf hflags, congrArg Flags.af hflags, ?_, hregs, hmem, ht⟩
  · rw [ha, alu_logic_getLsbD hop]
  · rw [hflags]
    exact zspOf_ofLogic _ _

/-! ## Compare -/

theorem sub8_res_eq_sub (a v : Byte) : (sub8 a v false).res = a - v := by
  have ha := a.isLt; have hv := v.isLt
  apply BitVec.eq_of_toNat_eq
  rw [sub8_res, BitVec.toNat_sub, bit, if_neg Bool.false_ne_true]
  omega

/-- A difference is zero just when its operands are equal. -/
theorem ofSum_sub8_zf (a v : Byte) : (Flags.ofSum (sub8 a v false)).zf = decide (a = v) := by
  have hzf : (Flags.ofSum (sub8 a v false)).zf = ((sub8 a v false).res == 0) := rfl
  rw [hzf, sub8_res_eq_sub, Bool.eq_iff_iff, beq_iff_eq, decide_eq_true_eq]
  exact sub_eq_zero

/-- Settles O24: the flags are those of the difference of `sub8`, and A is written back as it was. -/
theorem compareSetsTheFlagsOfTheDifference : Obligations.CompareSetsTheFlagsOfTheDifference := by
  intro x s
  refine ⟨encode_alu .cmp x, costs_alu .cmp x, fun h => ?_⟩
  obtain ⟨t, hexec, ha, hflags, hregs, hmem, ht⟩ := exec_alu h .cmp
  replace hflags : t.flags = Flags.ofSum (sub8 (s.reg .a) (operandValue s x) false) := hflags
  have hreg : ∀ r, t.reg r = s.reg r := by
    intro r
    by_cases hr : r = .a
    · rw [hr]
      exact ha
    · exact hregs r hr
  have hregs' : t.regs = (operandRead s x).regs := (Regs.ext_get _ _ hreg).trans (operandRead_regs s x).symm
  refine ⟨t, hexec, ?_, ?_, ?_, ?_, hreg, hmem, ?_⟩
  · rw [hflags]
    exact sub8_cy _ _ false
  · rw [hflags, ofSum_sub8_zf]
  · rw [hflags]
    exact sub8_ac _ _ false
  · rw [hflags, ← sub8_res_eq_sub]
    exact zspOf_ofSum _
  · rw [hregs'] at ht
    exact ht

/-! ## Complement and set -/

/-- Settles O25: CMA loads A with its complement; CMC and STC write CF alone. -/
theorem cmaCmcStcComplementAndSet : Obligations.CmaCmcStcComplementAndSet := by
  intro s
  obtain ⟨t, hexec, hreg, hmem, ht⟩ := ends_loading_reg (exec_instr .cma s) rfl rfl rfl
  refine ⟨rfl, fun _ => ⟨rfl, rfl⟩, ⟨t, hexec, ?_, fun r hr => ?_, hmem, ht⟩,
    rfl, fun _ => ⟨rfl, rfl⟩, exec_instr .cmc s, rfl, fun _ => ⟨rfl, rfl⟩, exec_instr .stc s⟩
  · rw [hreg, if_pos rfl, BitVec.toNat_not]
  · rw [hreg, if_neg hr]

/-! ## Rotates -/

theorem getLsbD_bitByte (c : Bool) (i : Nat) : (bitByte c).getLsbD i = (decide (i = 0) && c) := by
  cases i <;> simp [bitByte]

theorem rotLC_getLsbD_zero (a : Byte) (c : Bool) : (rotLC a c).1.getLsbD 0 = c := by
  rw [rotLC, BitVec.getLsbD_or, BitVec.getLsbD_shiftLeft, getLsbD_bitByte]
  simp

theorem rotLC_getLsbD_succ (a : Byte) (c : Bool) {i : Nat} (hi : i < 7) :
    (rotLC a c).1.getLsbD (i + 1) = a.getLsbD i := by
  have hi8 : i + 1 < 8 := Nat.succ_lt_succ hi
  rw [rotLC, BitVec.getLsbD_or, BitVec.getLsbD_shiftLeft, getLsbD_bitByte]
  simp [hi8]

theorem rotRC_getLsbD_seven (a : Byte) (c : Bool) : (rotRC a c).1.getLsbD 7 = c := by
  rw [rotRC, BitVec.getLsbD_or, BitVec.getLsbD_shiftLeft, getLsbD_bitByte]
  simp

theorem rotRC_getLsbD_of_lt (a : Byte) (c : Bool) {i : Nat} (hi : i < 7) :
    (rotRC a c).1.getLsbD i = a.getLsbD (i + 1) := by
  rw [rotRC, BitVec.getLsbD_or, BitVec.getLsbD_shiftLeft, BitVec.getLsbD_ushiftRight, Nat.add_comm]
  simp [hi]

section
variable {s : State} {result : Result} {c : Bool}

/-- An instruction that ends by writing A and CF. -/
theorem ends_rotating {r : Byte × Bool} (hresult : result = rotateA r s) :
    ∃ t, result = .next t ∧ t.reg .a = r.1 ∧ t.flags.cf = r.2 ∧ (∀ q, q ≠ .a → t.reg q = s.reg q) ∧ KeepsMemory s t ∧
      t = { s with regs := t.regs, flags := { s.flags with cf := t.flags.cf }, pc := s.pc + 1 } :=
  ⟨_, hresult, by simp, rfl, fun q hq => by simp [hq], keepsMemory_of_mem rfl, rfl⟩

/-- A rotated left: bit 7 goes out to CF, `c` comes in as bit 0. -/
theorem ends_rotating_left (hresult : result = rotateA (rotLC (s.reg .a) c) s) :
    ∃ t, result = .next t ∧ (t.flags.cf = (s.reg .a).getLsbD 7 ∧ (t.reg .a).getLsbD 0 = c) ∧
      (∀ i, i < 7 → (t.reg .a).getLsbD (i + 1) = (s.reg .a).getLsbD i) ∧
      (∀ q, q ≠ .a → t.reg q = s.reg q) ∧ KeepsMemory s t ∧
      t = { s with regs := t.regs, flags := { s.flags with cf := t.flags.cf }, pc := s.pc + 1 } := by
  obtain ⟨t, hexec, ha, hcf, hframe⟩ := ends_rotating hresult
  exact ⟨t, hexec, ⟨hcf, ha ▸ rotLC_getLsbD_zero _ c⟩, fun _ hi => ha ▸ rotLC_getLsbD_succ _ c hi, hframe⟩

/-- A rotated right: bit 0 goes out to CF, `c` comes in as bit 7. -/
theorem ends_rotating_right (hresult : result = rotateA (rotRC (s.reg .a) c) s) :
    ∃ t, result = .next t ∧ (t.flags.cf = (s.reg .a).getLsbD 0 ∧ (t.reg .a).getLsbD 7 = c) ∧
      (∀ i, i < 7 → (t.reg .a).getLsbD i = (s.reg .a).getLsbD (i + 1)) ∧
      (∀ q, q ≠ .a → t.reg q = s.reg q) ∧ KeepsMemory s t ∧
      t = { s with regs := t.regs, flags := { s.flags with cf := t.flags.cf }, pc := s.pc + 1 } := by
  obtain ⟨t, hexec, ha, hcf, hframe⟩ := ends_rotating hresult
  exact ⟨t, hexec, ⟨hcf, ha ▸ rotRC_getLsbD_seven _ c⟩, fun _ hi => ha ▸ rotRC_getLsbD_of_lt _ c hi, hframe⟩

end

/-- Settles O26: RLC and RRC are the rotates through the carry with the bit moved out in the place of the old CF. -/
theorem rotatesMoveTheBits : Obligations.RotatesMoveTheBits := by
  rintro _ s (rfl | rfl | rfl | rfl)
  · obtain ⟨t, hexec, hends, hbits, hframe⟩ := ends_rotating_left (c := (s.reg .a).getLsbD 7) (exec_instr .rlc s)
    exact ⟨rfl, fun _ => ⟨rfl, rfl⟩, t, hexec, fun _ => hends, nofun, fun _ => hbits, nofun, nofun, nofun, hframe⟩
  · obtain ⟨t, hexec, hends, hbits, hframe⟩ := ends_rotating_left (c := s.flags.cf) (exec_instr .ral s)
    exact ⟨rfl, fun _ => ⟨rfl, rfl⟩, t, hexec, nofun, fun _ => hends, fun _ => hbits, nofun, nofun, nofun, hframe⟩
  · obtain ⟨t, hexec, hends, hbits, hframe⟩ := ends_rotating_right (c := (s.reg .a).getLsbD 0) (exec_instr .rrc s)
    exact ⟨rfl, fun _ => ⟨rfl, rfl⟩, t, hexec, nofun, nofun, nofun, fun _ => hends, nofun, fun _ => hbits, hframe⟩
  · obtain ⟨t, hexec, hends, hbits, hframe⟩ := ends_rotating_right (c := s.flags.cf) (exec_instr .rar s)
    exact ⟨rfl, fun _ => ⟨rfl, rfl⟩, t, hexec, nofun, nofun, nofun, nofun, fun _ => hends, fun _ => hbits, hframe⟩

end Sys2Proof.Machine
end

section
/-! Branching (44_branch.md R230 to R239). Every instruction of the group ends in one of three ways: PC written, a call, or a
return. Each ending is said once, in the terms of the statements; a condition chooses between an ending and PC moved on. -/

namespace Sys2Proof.Machine
open Sys2Proof

section
variable {s t u : State} {cc : Cond} {ret target w : Word}

/-! ## Conditions: taken and not taken -/

theorem jumpIf_eq (cc : Cond) (a : Word) (s : State) :
    jumpIf cc a s = .next { s with pc := if s.flags.get (condFlag cc) = condSense cc then a else s.pc + 3 } := by
  simp only [jumpIf, holds_iff]
  split <;> rfl

theorem callIf_taken (h : s.flags.get (condFlag cc) = condSense cc) (a : Word) :
    callIf cc a s = callTo s (s.pc + 3) a :=
  if_pos ((holds_iff _ _).mpr h)

theorem callIf_not_taken (h : s.flags.get (condFlag cc) ≠ condSense cc) (a : Word) :
    callIf cc a s = .next { s with pc := s.pc + 3 } :=
  if_neg (mt (holds_iff _ _).mp h)

theorem returnIf_taken (h : s.flags.get (condFlag cc) = condSense cc) : returnIf cc s = returnFromStack s :=
  if_pos ((holds_iff _ _).mpr h)

theorem returnIf_not_taken (h : s.flags.get (condFlag cc) ≠ condSense cc) :
    returnIf cc s = .next { s with pc := s.pc + 1 } :=
  if_neg (mt (holds_iff _ _).mp h)

/-! ## Calls and returns -/

/-- An instruction that is a call completes where both stack bytes are present. -/
theorem ends_calling {result : Result} (hresult : result = callTo s ret target) (h : s.canPush) :
    ∃ t, result = .next t ∧ Pushed s t ret ∧
      t = { s with sp := t.sp, mem := t.mem, trace := t.trace, pc := target } := by
  refine ⟨(s.pushed ret).setPc target, hresult.trans (push16_present h ret _), pushed_of_state rfl rfl rfl, ?_⟩
  apply State.ext_fields <;> simp

theorem returnFromStack_present (h : s.canPop) :
    returnFromStack s = .next { s.afterTopRead with sp := s.sp + 2, pc := join s.topHigh s.topLow } := by
  rw [returnFromStack, pop16_present h, State.popped_eq]
  rfl

/-- A stack whose top two bytes are RAM gives the word that its cells hold. -/
theorem State.top_of_ram (hlow : s.kindAt s.sp = .ram) (hhigh : s.kindAt (s.sp + 1) = .ram) :
    s.canPop ∧ s.topLow = s.byteAt s.sp ∧ s.topHigh = s.byteAt (s.sp + 1) := by
  have hne {a : Word} (h : s.kindAt a = .ram) : s.kindAt a ≠ .device := h ▸ nofun
  refine ⟨⟨State.present_of_kindAt hlow nofun, State.present_of_kindAt hhigh nofun⟩, ?_, ?_⟩
  · exact State.readByte_of_not_device (hne hlow)
  · rw [State.topHigh, State.afterRead_of_not_device (hne hlow), State.readByte_of_not_device (hne hhigh)]

/-- A return from a stack in RAM whose top two cells hold `w`. -/
theorem returnFromStack_of_ram (hlow : s.kindAt s.sp = .ram) (hhigh : s.kindAt (s.sp + 1) = .ram)
    (hlo : s.byteAt s.sp = lo w) (hhi : s.byteAt (s.sp + 1) = hi w) :
    ∃ t, returnFromStack s = .next t ∧ t.pc = w ∧ t.sp = s.sp + 2 := by
  obtain ⟨hpop, htopLow, htopHigh⟩ := State.top_of_ram hlow hhigh
  refine ⟨_, returnFromStack_present hpop, ?_, rfl⟩
  rw [htopLow, htopHigh, hlo, hhi, join_hi_lo]

/-- A return that finds SP, the map and the two bytes as a call from `s`, on a stack in RAM, left them in `t`: PC and SP are
those behind the call (R239). -/
theorem returnFromStack_after_callTo (hhigh : s.kindAt (s.sp - 1) = .ram) (hlow : s.kindAt (s.sp - 2) = .ram)
    (hcall : callTo s ret target = .next t) (map : u.memMap = t.memMap) (sp : u.sp = t.sp)
    (hhi : u.byteAt (s.sp - 1) = t.byteAt (s.sp - 1)) (hlo : u.byteAt (s.sp - 2) = t.byteAt (s.sp - 2)) :
    ∃ v, returnFromStack u = .next v ∧ v.pc = ret ∧ v.sp = s.sp := by
  obtain ⟨-, -, rfl⟩ := callTo_next.mp hcall
  obtain ⟨hsp, hcellHigh, -, hcellLow, -⟩ : Pushed s ((s.pushed ret).setPc target) ret := pushed_of_state rfl rfl rfl
  have hkind : ∀ a, u.kindAt a = s.kindAt a := State.kindAt_congr (map.trans (State.pushed_memMap s ret))
  have husp : u.sp = s.sp - 2 := sp.trans hsp
  have hsucc : s.sp - 2 + 1 = s.sp - 1 := by bv_omega
  obtain ⟨v, hv, hpc, hvsp⟩ : ∃ v, returnFromStack u = .next v ∧ v.pc = ret ∧ v.sp = u.sp + 2 := by
    apply returnFromStack_of_ram <;> rw [husp]
    · rw [hkind, hlow]
    · rw [hsucc, hkind, hhigh]
    · rw [hlo, hcellLow hlow]
    · rw [hsucc, hhi, hcellHigh hhigh]
  exact ⟨v, hv, hpc, by rw [hvsp, husp, BitVec.sub_add_cancel]⟩

end

theorem rstVector_toNat : ∀ n : Fin 8, (rstVector n).toNat = 8 * n.val := by decide

/-! ## The statements -/

/-- Settles O27: PC written, for J<condition> by its flag. -/
theorem jumpsSetThePC : Obligations.JumpsSetThePC := fun addr16 s =>
  ⟨rfl, fun _ => ⟨rfl, rfl⟩, exec_instr _ s, rfl, fun _ => ⟨rfl, rfl⟩, exec_instr _ s, fun cc =>
    ⟨by cases cc <;> rfl, rfl, rfl, rfl, rfl, (exec_instr _ s).trans (jumpIf_eq cc addr16 s)⟩⟩

/-- Settles O28: a taken call and CALL end alike. -/
theorem callsPushTheReturnAddress : Obligations.CallsPushTheReturnAddress := by
  intro addr16 s
  refine ⟨rfl, fun _ => ⟨rfl, rfl⟩, ends_calling (exec_instr _ s), fun cc =>
    ⟨by cases cc <;> rfl, rfl, rfl, rfl, rfl, fun htaken => ?_, fun hnot => ?_⟩⟩
  · exact ends_calling ((exec_instr _ s).trans (callIf_taken htaken addr16))
  · exact (exec_instr _ s).trans (callIf_not_taken hnot addr16)

/-- Settles O29: a taken return and RET end alike. -/
theorem returnsPopThePC : Obligations.ReturnsPopThePC := by
  intro s
  refine ⟨rfl, fun _ => ⟨rfl, rfl⟩, fun h => (exec_instr _ s).trans (returnFromStack_present h), fun cc =>
    ⟨by cases cc <;> rfl, rfl, rfl, rfl, rfl, fun htaken h => ?_, fun hnot => ?_⟩⟩
  · rw [exec_instr, formMeaning, returnIf_taken htaken, returnFromStack_present h]
  · exact (exec_instr _ s).trans (returnIf_not_taken hnot)

/-- Settles O30: RST n is a call to `rstVector n`. -/
theorem rstCallsEightTimesN : Obligations.RstCallsEightTimesN := by
  intro n s
  refine ⟨by revert n; decide, fun _ => ⟨rfl, rfl⟩, fun h => ?_⟩
  obtain ⟨t, hexec, hpushed, ht⟩ := ends_calling (exec_instr (.rst n) s) h
  have hpc : t.pc = rstVector n := congrArg State.pc ht
  exact ⟨t, hexec, hpushed, hpc ▸ rstVector_toNat n, hpc ▸ ht⟩

/-- Settles O31: CALL and RST n are calls that differ in the address they push. -/
theorem returnComesBackBehindTheCall : Obligations.ReturnComesBackBehindTheCall := by
  rintro s t u f (⟨a, rfl⟩ | ⟨n, rfl⟩) hhigh hlow hexec map sp hhi hlo <;> rw [exec_instr] at hexec
  · rw [if_pos ⟨a, rfl⟩]
    exact returnFromStack_after_callTo hhigh hlow hexec map sp hhi hlo
  · rw [if_neg nofun]
    exact returnFromStack_after_callTo hhigh hlow hexec map sp hhi hlo

end Sys2Proof.Machine
end

section
/-! Machine control (45_machine_control.md R260 to R265). The instructions write the control cells and A; what the cells mean
for the coming boundary and for the byte RIM reads is said here, on its own. -/

namespace Sys2Proof.Machine
open Sys2Proof

/-! ## A boundary that does not admit the maskable interrupts -/

/-- Where IE is 0 or EI_PENDING is 1, four of the five tests of a boundary fail (60_exceptions.md R282). -/
theorem State.request_of_not_admits {s : State} (h : s.admits = false) :
    s.request = if s.event.trap then some (.vectored .trap) else none := by
  simp [State.request, h]

theorem State.eq_trap_of_request {s : State} {r : Request} (h : s.admits = false) (hr : s.request = some r) :
    r = .vectored .trap := by
  rw [State.request_of_not_admits h] at hr
  split at hr
  · exact (Option.some.inj hr).symm
  · cases hr

/-! ## The byte RIM reads -/

/-- A byte put together from eight bits, D7 first, by its bits. -/
theorem getLsbD_of_eq_bits {x : Byte} {d7 d6 d5 d4 d3 d2 d1 d0 : Bool}
    (h : x = BitVec.ofBool d7 ++ BitVec.ofBool d6 ++ BitVec.ofBool d5 ++ BitVec.ofBool d4 ++ BitVec.ofBool d3 ++
      BitVec.ofBool d2 ++ BitVec.ofBool d1 ++ BitVec.ofBool d0) :
    x.getLsbD 7 = d7 ∧ x.getLsbD 6 = d6 ∧ x.getLsbD 5 = d5 ∧ x.getLsbD 4 = d4 ∧ x.getLsbD 3 = d3 ∧
      x.getLsbD 2 = d2 ∧ x.getLsbD 1 = d1 ∧ x.getLsbD 0 = d0 := by
  subst h
  revert d7 d6 d5 d4 d3 d2 d1 d0
  decide

/-! ## The statements -/

/-- Settles O35: HLT writes one control cell, NOP none. -/
theorem hltHaltsAndNopAdvances : Obligations.HltHaltsAndNopAdvances := fun s =>
  ⟨rfl, fun _ => ⟨rfl, rfl⟩, rfl, rfl, exec_instr .hlt s, rfl, fun _ => ⟨rfl, rfl⟩, exec_instr .nop s⟩

/-- Settles O32: neither the cells DI leaves nor those EI leaves admit a maskable interrupt. -/
theorem diAndEiSwitchTheEnable : Obligations.DiAndEiSwitchTheEnable := by
  intro s
  refine ⟨rfl, fun _ => ⟨rfl, rfl⟩, exec_instr .di s, rfl, fun _ => ⟨rfl, rfl⟩, exec_instr .ei s, ?_⟩
  rintro t events r (hdi | hei)
  · obtain rfl := Host.Outcome.next.inj ((exec_instr .di s).symm.trans hdi)
    exact State.eq_trap_of_request rfl
  · obtain rfl := Host.Outcome.next.inj ((exec_instr .ei s).symm.trans hei)
    exact State.eq_trap_of_request rfl

/-- Settles O33: each cell of `Control.sim` asks its own enable bit of A. -/
theorem simSetsMasksLatchAndSod : Obligations.SimSetsMasksLatchAndSod := by
  intro s
  refine ⟨rfl, fun _ => ⟨rfl, rfl⟩, _, exec_instr .sim s, fun hset => ?_, fun hclear => ?_, rfl, rfl,
    keepsMemory_of_mem rfl, rfl⟩
  · exact ⟨if_pos hset, if_pos hset, if_pos hset⟩
  · have hnot := Bool.eq_false_iff.mp hclear
    exact ⟨if_neg hnot, if_neg hnot, if_neg hnot⟩

/-- Settles O34: RIM loads A with `Control.rimByte`, after the draw and with the shadow consumed. -/
theorem rimReadsTheInterruptByte : Obligations.RimReadsTheInterruptByte := by
  intro s
  obtain ⟨t, hexec, hreg, hmem, ht⟩ := ends_loading_reg (exec_instr .rim s) rfl rfl rfl
  have ha : t.reg .a = s.ctl.rimByte (Config.sidLevel s.draws) := hreg .a
  obtain ⟨h7, h6, h5, h4, h3, h2, h1, h0⟩ := getLsbD_of_eq_bits ha
  exact ⟨rfl, fun _ => ⟨rfl, rfl⟩, t, hexec, h7, h6, h5, h4, h3, h2, h1, h0,
    fun r hr => (hreg r).trans (if_neg hr), hmem, ht⟩

end Sys2Proof.Machine
end

section
/-! Interrupts (60_exceptions.md R281 to R292). Which request a boundary accepts, and what a step does then: every entry
ends in one way, a call from the sampled boundary with new control cells. A boundary with no event is the other case. -/

namespace Sys2Proof.Machine
open Sys2Proof

/-! ## Which request is accepted -/

/-- The requests in the order of 60_exceptions.md R284, the highest priority first. -/
def requestOrder : List Request :=
  [.vectored .trap, .vectored .rst75, .vectored .rst65, .vectored .rst55, .intr]

/-- The five tests of 60_exceptions.md R282 as a boundary evaluates them. -/
def State.accepts (s : State) : Request → Bool
  | .vectored .trap => s.event.trap
  | .vectored .rst75 => s.sampled.ctl.l75 && !s.ctl.m75 && s.admits
  | .vectored .rst65 => s.event.line65 && !s.ctl.m65 && s.admits
  | .vectored .rst55 => s.event.line55 && !s.ctl.m55 && s.admits
  | .intr => s.event.intr && s.admits

theorem State.accepts_iff (s : State) (r : Request) : s.accepts r = true ↔ canAccept s r := by
  cases r with
  | vectored src => cases src <;> simp [State.accepts, canAccept, State.admits, and_assoc]
  | intr => simp [State.accepts, canAccept, State.admits]

theorem State.request_eq_find? (s : State) : s.request = requestOrder.find? s.accepts := by
  have hcons : ∀ r rs, (r :: rs).find? s.accepts = if s.accepts r then some r else rs.find? s.accepts := by
    intro r rs
    cases h : s.accepts r <;> simp [h]
  rw [requestOrder, hcons, hcons, hcons, hcons, hcons]
  rfl

theorem requestOrder_getElem?_priority (r : Request) : requestOrder[priority r]? = some r := by
  cases r with
  | vectored src => cases src <;> rfl
  | intr => rfl

theorem priority_requestOrder_getElem : ∀ i, (h : i < requestOrder.length) → priority requestOrder[i] = i := by
  decide

theorem State.request_eq_some_iff (s : State) (r : Request) :
    s.request = some r ↔ canAccept s r ∧ ∀ q, priority q < priority r → ¬ canAccept s q := by
  rw [State.request_eq_find?, List.find?_eq_some_iff_getElem, State.accepts_iff]
  refine and_congr_right fun _ => ⟨?_, fun hbefore => ?_⟩
  · rintro ⟨i, hi, rfl, hbefore⟩ q hq
    rw [priority_requestOrder_getElem] at hq
    obtain ⟨_, hget⟩ := List.getElem?_eq_some_iff.mp (requestOrder_getElem?_priority q)
    have hnot := hbefore _ hq
    rw [hget] at hnot
    simpa [← State.accepts_iff] using hnot
  · obtain ⟨hlt, hget⟩ := List.getElem?_eq_some_iff.mp (requestOrder_getElem?_priority r)
    refine ⟨priority r, hlt, hget, fun j hj => ?_⟩
    have hnot := hbefore requestOrder[j] (by rwa [priority_requestOrder_getElem])
    simpa [← State.accepts_iff] using hnot

theorem State.request_eq_none_iff (s : State) : s.request = none ↔ ∀ r, ¬ canAccept s r := by
  have hmem : ∀ r, r ∈ requestOrder := fun r => List.mem_of_getElem? (requestOrder_getElem?_priority r)
  simp [State.request_eq_find?, ← State.accepts_iff, hmem]

section
variable {s t : State} {k : Control} {target : Word} {result : Result}

/-! ## What a step does at a boundary without a reset -/

theorem step_of_vectored {src : Source} (hr : s.event.reset = false) (hq : s.request = some (.vectored src)) :
    step s = enter src s.sampled := by
  simp [step, hr, hq]

theorem step_of_intr (hr : s.event.reset = false) (hq : s.request = some .intr) :
    step s = acknowledgeIntr s.event s.sampled := by
  simp [step, hr, hq]

theorem step_of_halted (hr : s.event.reset = false) (hq : s.request = none) (hh : s.ctl.halted = true) :
    step s = .next s.sampled := by
  simp [step, hr, hq, hh]

/-- A run whose first step goes on. -/
theorem core_run_succ (h : step s = .next t) (n : Nat) : core.run (n + 1) s = core.run n t := by
  have hcore : core.step s = .next t := h
  simp only [Host.Core.run, hcore]

/-! ## The entry of an interrupt -/

/-- The control cells at an entry with a vector, in one expression. -/
theorem Control.enter_eq (k : Control) (src : Source) :
    k.enter src =
      { k with
        halted := false, ie := false
        l75 := if src = .rst75 then false else k.l75
        trapIeShadow := if src = .trap then k.ie else k.trapIeShadow
        trapShadowValid := if src = .trap then true else k.trapShadowValid } := by
  cases src <;> rfl

/-- An entry that is a call from the boundary, with PC as the return address and new control cells. -/
theorem ends_interrupting (hresult : result = callTo (s.sampled.setCtl k) s.pc target) (h : s.canPush) :
    ∃ t, result = .next t ∧ Pushed s t s.pc ∧ t.pc = target ∧
      t = { s with sp := t.sp, pc := t.pc, mem := t.mem, trace := t.trace, irq := s.irq.tail, ctl := k } := by
  obtain ⟨t, hnext, hpushed, ht⟩ := ends_calling hresult h
  have hpc : t.pc = target := congrArg State.pc ht
  exact ⟨t, hnext, hpushed, hpc, hpc ▸ ht⟩

/-! ## What INTR runs -/

/-- The bytes of RST n are those with ones in the bits of C7H; n is the field between. -/
theorem rstByte_fields : ∀ n : Fin 8,
    (0xC7 + 8 * BitVec.ofNat 8 n.val : Byte) &&& 0xC7 = 0xC7 ∧
      (field3 (0xC7 + 8 * BitVec.ofNat 8 n.val) 3).toFin = n := by
  decide

set_option maxRecDepth 4000 in
theorem eq_rstByte_of_fields : ∀ b : Byte, b &&& 0xC7 = 0xC7 →
    b = 0xC7 + 8 * BitVec.ofNat 8 (field3 b 3).toFin.val := by
  decide

theorem eq_rstVector {n : Fin 8} (h : target.toNat = 8 * n.val) : target = rstVector n :=
  BitVec.eq_of_toNat_eq (h.trans (rstVector_toNat n).symm)

theorem acknowledgeIntr_rst {ev : IrqEvent} {n : Fin 8} (h : ev.intrOpcode = 0xC7 + 8 * BitVec.ofNat 8 n.val)
    (s : State) :
    acknowledgeIntr ev s = callTo (s.setCtl { s.ctl with halted := false, ie := false }) s.pc (rstVector n) := by
  obtain ⟨hbits, hfield⟩ := rstByte_fields n
  rw [acknowledgeIntr, h, if_pos hbits, hfield]

theorem acknowledgeIntr_call {ev : IrqEvent} (h : ev.intrOpcode = 0xCD) (s : State) :
    acknowledgeIntr ev s =
      callTo (s.setCtl { s.ctl with halted := false, ie := false }) s.pc (join ev.intrHi ev.intrLo) := by
  rw [acknowledgeIntr, h, if_neg (by decide), if_pos rfl]

theorem acknowledgeIntr_refused {ev : IrqEvent} (hrst : ∀ n : Fin 8, ev.intrOpcode ≠ 0xC7 + 8 * BitVec.ofNat 8 n.val)
    (hcall : ev.intrOpcode ≠ 0xCD) (s : State) : acknowledgeIntr ev s = .refused (.intrOpcode ev.intrOpcode) := by
  rw [acknowledgeIntr, if_neg fun hbits => hrst _ (eq_rstByte_of_fields _ hbits), if_neg hcall]

/-! ## A boundary with no event to come -/

theorem State.event_of_irq_nil (h : s.irq = []) : s.event = .quiet := by
  simp [State.event, h]

/-- With no event only a latched RST 7.5 could be taken. -/
theorem State.request_of_irq_nil (h : s.irq = [])
    (hlatch : s.ctl.l75 = true → s.ctl.m75 = true ∨ s.ctl.ie = false ∨ s.ctl.eiPending = true) :
    s.request = none := by
  refine (State.request_eq_none_iff s).mpr fun r => ?_
  have hev := State.event_of_irq_nil h
  rcases r with (_ | _ | _ | _) | _
  case vectored.rst75 =>
    rintro ⟨hl | hedge, hmask, hie, hpending⟩
    · have hshut := hlatch hl
      simp [hmask, hie, hpending] at hshut
    · rw [hev] at hedge
      cases hedge
  all_goals simp [canAccept, hev, IrqEvent.quiet]

theorem State.sampled_of_irq_nil (h : s.irq = []) :
    s.sampled = { s with ctl := { s.ctl with eiPending := false, line55 := false, line65 := false } } := by
  apply State.ext_fields <;> simp [State.event_of_irq_nil h, IrqEvent.quiet, h]

end

/-! ## The statements -/

/-- Settles O42: the request is the first in the order of priority that its test accepts. -/
theorem highestAcceptableRequestIsTaken : Obligations.HighestAcceptableRequestIsTaken := fun s =>
  ⟨State.request_eq_some_iff s, State.request_eq_none_iff s⟩

/-- Settles O43: the call to the vector, with the cells of `Control.enter_eq`. -/
theorem interruptEntrySavesThePC : Obligations.InterruptEntrySavesThePC := by
  intro s src hr hq h
  obtain ⟨t, hstep, hpushed, hpc, ht⟩ := ends_interrupting (step_of_vectored hr hq) h
  have hctl : t.ctl = s.sampled.ctl.enter src := congrArg State.ctl ht
  rw [Control.enter_eq] at hctl ht
  refine ⟨t, hstep, hpushed, hpc.trans (by cases src <;> rfl), ?_⟩
  rw [hctl]
  exact ⟨rfl, rfl, rfl, rfl, rfl, rfl, ht⟩

/-- Settles O44: the supplied byte chooses the target of the call, or the refusal. -/
theorem intrRunsTheDevicesInstruction : Obligations.IntrRunsTheDevicesInstruction := by
  intro s hr hq
  have hstep := step_of_intr hr hq
  refine ⟨?_, fun hrst hcall => hstep.trans (acknowledgeIntr_refused hrst hcall _)⟩
  rintro target (⟨n, hop, htarget⟩ | ⟨hop, rfl⟩) h
  · rw [eq_rstVector htarget]
    exact ends_interrupting (hstep.trans (acknowledgeIntr_rst hop _)) h
  · exact ends_interrupting (hstep.trans (acknowledgeIntr_call hop _)) h

/-- Settles O45: the cells EI leaves shut the maskable interrupts out, and those its boundary leaves let them in. -/
theorem eiAdmitsAfterOneMoreInstruction : Obligations.EiAdmitsAfterOneMoreInstruction := by
  refine fun s => ⟨_, exec_instr .ei s, fun _ _ => State.eq_trap_of_request rfl, fun _ u hu => ?_⟩
  rw [State.admits, hu]
  rfl

/-- Settles O46: the entry of TRAP by O43, and each RIM by O34. -/
theorem firstRimAfterTrapShowsTheOldEnable : Obligations.FirstRimAfterTrapShowsTheOldEnable := by
  intro s hr htrap h
  have hq : s.request = some (.vectored .trap) :=
    (State.request_eq_some_iff s _).mpr ⟨htrap, fun _ hq => absurd hq (Nat.not_lt_zero _)⟩
  obtain ⟨t, hstep, -, -, -, hie, -, -, hshadow, hvalid, -⟩ := interruptEntrySavesThePC s .trap hr hq h
  obtain ⟨-, -, u, hu, -, -, -, -, hu3, -, -, -, -, -, hframe⟩ := rimReadsTheInterruptByte t
  obtain ⟨-, -, v, hv, -, -, -, -, hv3, -⟩ := rimReadsTheInterruptByte u
  have huctl : u.ctl = { t.ctl with trapShadowValid := false } := congrArg State.ctl hframe
  refine ⟨t, u, v, hstep, hu, hv, hie, ?_, ?_⟩
  · rw [hu3, hvalid, hshadow]
    rfl
  · rw [hv3, huctl]
    exact hie

/-- Settles O41: with no event left the boundary accepts nothing and samples nothing. -/
theorem quietBoundaryFetches : Obligations.QuietBoundaryFetches := by
  intro s hirq hh hlatch
  refine ⟨?_, State.sampled_of_irq_nil hirq⟩
  simp [State.fetches, State.event_of_irq_nil hirq, State.request_of_irq_nil hirq hlatch, hh, IrqEvent.quiet]

/-- Settles O60, by induction on the number of steps: each is a halted turn, and the boundary it leaves is as quiet. -/
theorem haltWithoutInterruptIsFinal : Obligations.HaltWithoutInterruptIsFinal := by
  intro n
  induction n with
  | zero => exact fun s _ _ _ _ => ⟨s, rfl, rfl⟩
  | succ n ih =>
    intro s hh hirq hpending hlatch
    have hstep : step s = .next s.sampled :=
      step_of_halted (by rw [State.event_of_irq_nil hirq]; rfl)
        (State.request_of_irq_nil hirq fun hl => (hlatch hl).imp_right .inl) hh
    have hsampled := State.sampled_of_irq_nil hirq
    obtain ⟨t, hrun, ht⟩ := ih s.sampled hh (by rw [hsampled]; exact hirq) rfl (by rwa [hsampled])
    refine ⟨t, (core_run_succ hstep n).trans hrun, ?_⟩
    rw [hsampled, ← hpending] at ht
    exact ht

/-- Settles O51: an instruction that is not undefined stops only at an absent address. -/
theorem everyDefinedInstructionCompletes : Obligations.EveryDefinedInstructionCompletes := by
  intro i s hpresent hi
  obtain hnext | ⟨op, hop, -⟩ | ⟨a, ha, -⟩ := instructionsStopOnlyWhereTheSpecStops i s
  · exact hnext
  · exact absurd hop (hi op)
  · simp [hpresent] at ha

end Sys2Proof.Machine
end

section
/-! The fetch in terms of the bytes that stand at PC (20_memory.md R63, 30_encoding.md R90): the bytes read in turn are
those the format of the first one asks for, but for the third byte of a condition that is false. -/

namespace Sys2Proof.Machine
open Sys2Proof

section
variable {s : State} {a : Word} {n : Nat} {format : Format} {f : Form}

/-! ## Bytes read in turn -/

theorem State.length_readRun (s : State) (a : Word) (n : Nat) : (s.readRun a n).1.length = n := by
  induction n generalizing s a with
  | zero => rfl
  | succ n ih => exact congrArg Nat.succ (ih (s.afterRead a) (a + 1))

theorem State.readRun_flags (s : State) (a : Word) (n : Nat) : (s.readRun a n).2.flags = s.flags := by
  induction n generalizing s a with
  | zero => rfl
  | succ n ih => exact (ih _ _).trans (State.afterRead_flags s a)

theorem State.readRun_pc (s : State) (a : Word) (n : Nat) : (s.readRun a n).2.pc = s.pc := by
  induction n generalizing s a with
  | zero => rfl
  | succ n ih => exact (ih _ _).trans (State.afterRead_pc s a)

/-- A read before a run leaves its addresses present. -/
theorem State.presentRun_afterRead (b : Word) (h : s.presentRun a n) : (s.afterRead b).presentRun a n := by
  induction n generalizing a with
  | zero => trivial
  | succ n ih => exact ⟨(State.present_congr (State.afterRead_memMap s b) a).trans h.1, ih h.2⟩

/-! ## The third byte of a condition that is false -/

/-- Of the formats with a condition the third byte is skipped where the condition is false. -/
theorem skipsByte3_of_b3cond {cc : Cond} {g : Word → Form} (h : f.format = .b3cond cc g) (flags : Flags) :
    skipsByte3 flags f = !flags.holds cc := by
  have hholds : flags.holds cc = (flags.get (condFlag cc) == condSense cc) := by
    rw [Bool.eq_iff_iff, holds_iff, beq_iff_eq]
  rw [hholds]
  unfold Form.format at h
  split at h <;> cases h <;> rfl

/-- Only a form with a condition skips its third byte, whatever its address. -/
theorem format_of_skipsByte3 {flags : Flags} (h : skipsByte3 flags f = true) :
    ∃ cc g, f.format = .b3cond cc g ∧ ∀ w, skipsByte3 flags (g w) = true := by
  cases f with
  | jcc cc _ => exact ⟨cc, .jcc cc, rfl, fun _ => h⟩
  | ccc cc _ => exact ⟨cc, .ccc cc, rfl, fun _ => h⟩
  | _ => cases h

/-- Such an instruction only moves PC on. -/
theorem exec_of_skipsByte3 (h : skipsByte3 s.flags f = true) : exec f.instr s = .next { s with pc := s.pc + 3 } := by
  rw [exec_instr]
  cases f with
  | jcc cc w =>
    have hnot : s.flags.get (condFlag cc) ≠ condSense cc := bne_iff_ne.mp h
    rw [formMeaning, jumpIf_eq, if_neg hnot]
  | ccc cc w => exact callIf_not_taken (bne_iff_ne.mp h) w
  | _ => cases h

/-! ## The fetch -/

/-- The rest of a fetch, once the opcode has been read and has that format. -/
def fetchRest (format : Format) (s : State) (k : Instr → State → Result) : Result :=
  match format with
  | .none opcode => k (.undefined opcode) s
  | .b1 f => k f.instr s
  | .b2 f => load s (s.pc + 1) fun byte2 s2 => k (f byte2).instr s2
  | .b3 f =>
    load s (s.pc + 1) fun byte2 s2 => load s2 (s2.pc + 2) fun byte3 s3 => k (f (join byte3 byte2)).instr s3
  | .b3cond cc f =>
    load s (s.pc + 1) fun byte2 s2 =>
      if s2.flags.holds cc then load s2 (s2.pc + 2) fun byte3 s3 => k (f (join byte3 byte2)).instr s3
      else k (f (join 0 byte2)).instr s2

theorem fetch_present (h : s.present s.pc = true) (k : Instr → State → Result) :
    fetch s k = fetchRest (decodeOpcode (s.readByte s.pc)) (s.afterRead s.pc) k :=
  load_present h _

/-- Two bytes read in turn behind the opcode, the second from PC + 2. -/
theorem load_third_byte {k : Byte → State → Result} (h : s.presentRun (s.pc + 1) 2) :
    load (s.afterRead (s.pc + 1)) ((s.afterRead (s.pc + 1)).pc + 2) k =
      k ((s.afterRead (s.pc + 1)).readByte (s.pc + 1 + 1)) (s.readRun (s.pc + 1) 2).2 := by
  obtain ⟨-, hthird, -⟩ := h
  rw [State.afterRead_pc, ← sp_add_two, load_present_of_map (State.afterRead_memMap s _) hthird]
  rfl

/-- The word of two bytes read in turn. -/
theorem join_of_readRun {w : Word} (h : (s.readRun a 2).1 = [lo w, hi w]) :
    join ((s.afterRead a).readByte (a + 1)) (s.readByte a) = w := by
  obtain ⟨hlo, htail⟩ := List.cons.inj h
  rw [hlo, List.singleton_inj.mp htail, join_hi_lo]

/-- Where the bytes behind the opcode are those the format reads `f` from, and its condition holds if it has one, the
rest of the fetch hands on `f` and the state after those reads. -/
theorem fetchRest_of_reads (hp : s.presentRun (s.pc + 1) n) (hr : Reads format (s.readRun (s.pc + 1) n).1 f)
    (hcond : ∀ cc g, format = .b3cond cc g → s.flags.holds cc = true) (k : Instr → State → Result) :
    fetchRest format s k = k f.instr (s.readRun (s.pc + 1) n).2 := by
  have hlen := State.length_readRun s (s.pc + 1) n
  generalize hbytes : (s.readRun (s.pc + 1) n).1 = bytes at hr hlen
  cases hr with
  | b1 f | none op =>
    subst hlen
    rfl
  | b2 g v =>
    subst hlen
    obtain rfl := List.singleton_inj.mp hbytes
    rw [fetchRest, load_present hp.1]
    rfl
  | b3 g w =>
    subst hlen
    rw [fetchRest, load_present hp.1, load_third_byte hp, join_of_readRun hbytes]
    rfl
  | b3cond cc g w =>
    subst hlen
    rw [fetchRest, load_present hp.1, State.afterRead_flags, if_pos (hcond cc g rfl), load_third_byte hp,
      join_of_readRun hbytes]
    rfl

/-- Bytes that decode to an instruction with nothing left over are its form's opcode and operand bytes. -/
theorem opcode_of_decode {bytes : List Byte} {i : Instr} (h : decode bytes = .ok (i, [])) :
    bytes = i.form.opcode :: i.form.operandBytes ∧ decodeOpcode i.form.opcode = i.form.format := by
  obtain ⟨hwf, hbytes⟩ := encode_of_decode h
  rw [← instr_form i] at hwf hbytes
  rw [encode_instr, List.append_nil] at hbytes
  exact ⟨hbytes, decodeOpcode_opcode _ hwf⟩

/-- A fetch at bytes that decode to `i`, all of which are read. -/
theorem fetch_of_decode {i : Instr} (hp : s.presentRun s.pc n) (hd : decode (s.readRun s.pc n).1 = .ok (i, []))
    (hskip : skipsByte3 s.flags i.form = false) (k : Instr → State → Result) :
    fetch s k = k i (s.readRun s.pc n).2 := by
  obtain ⟨hbytes, hformat⟩ := opcode_of_decode hd
  cases n with
  | zero => cases hbytes
  | succ n =>
    obtain ⟨hop, htail⟩ := List.cons.inj hbytes
    obtain ⟨hpc, hrest⟩ := hp
    have hreads : Reads i.form.format ((s.afterRead s.pc).readRun ((s.afterRead s.pc).pc + 1) n).1 i.form := by
      rw [State.afterRead_pc, htail]
      exact reads_format i.form
    have hcond : ∀ cc g, i.form.format = .b3cond cc g → (s.afterRead s.pc).flags.holds cc = true := by
      intro cc g hf
      rw [skipsByte3_of_b3cond hf] at hskip
      simpa using hskip
    have hrest' : (s.afterRead s.pc).presentRun ((s.afterRead s.pc).pc + 1) n := by
      rw [State.afterRead_pc]
      exact State.presentRun_afterRead _ hrest
    rw [fetch_present hpc, hop, hformat, fetchRest_of_reads hrest' hreads hcond, instr_form, State.afterRead_pc]
    rfl

/-- A fetch at two bytes that, with any third, decode to a conditional jump or call whose condition is false. -/
theorem fetch_of_skipsByte3 {i : Instr} {byte3 : Byte} (hp : s.presentRun s.pc 2)
    (hd : decode ((s.readRun s.pc 2).1 ++ [byte3]) = .ok (i, [])) (hskip : skipsByte3 s.flags i.form = true)
    (k : Instr → State → Result) :
    ∃ g : Form, skipsByte3 s.flags g = true ∧ fetch s k = k g.instr (s.readRun s.pc 2).2 := by
  obtain ⟨hbytes, hformat⟩ := opcode_of_decode hd
  obtain ⟨cc, g, hf, hskips⟩ := format_of_skipsByte3 hskip
  obtain ⟨hpc, hsecond, -⟩ := hp
  have hop : s.readByte s.pc = i.form.opcode := (List.cons.inj hbytes).1
  have hnot : s.flags.holds cc = false := by
    rw [skipsByte3_of_b3cond hf] at hskip
    simpa using hskip
  refine ⟨_, hskips (join 0 ((s.afterRead s.pc).readByte (s.pc + 1))), ?_⟩
  rw [fetch_present hpc, hop, hformat, hf, fetchRest, State.afterRead_pc,
    load_present_of_map (State.afterRead_memMap s _) hsecond]
  simp [hnot, State.readRun]

theorem step_of_fetches (h : s.fetches = true) : step s = fetch s.sampled exec := by
  simp only [State.fetches, Bool.and_eq_true, Bool.not_eq_true', beq_iff_eq] at h
  obtain ⟨⟨hr, hq⟩, hh⟩ := h
  exact step_eq_fetch hr hq hh

end

/-! ## The statement -/

/-- Settles O40: where all bytes are read the fetch hands on the decoded instruction; where the third is not, it hands on
one that does the same as the decoded one. -/
theorem stepRunsTheDecodedInstruction : Obligations.StepRunsTheDecodedInstruction := by
  refine ⟨fun s n i hfetch hp hd hskip => ?_, fun s byte3 i hfetch hp hd hskip => ?_⟩
  · rw [step_of_fetches hfetch]
    exact fetch_of_decode (s := s.sampled) hp hd hskip exec
  · obtain ⟨g, hg, hfetched⟩ := fetch_of_skipsByte3 (s := s.sampled) hp hd hskip exec
    have hexec : ∀ f : Form, skipsByte3 s.flags f = true →
        exec f.instr (s.sampled.readRun s.pc 2).2 = .next { (s.sampled.readRun s.pc 2).2 with pc := s.pc + 3 } := by
      intro f hf
      rw [exec_of_skipsByte3 (by rwa [State.readRun_flags]), State.readRun_pc]
      rfl
    have hstep : step s = .next { (s.sampled.readRun s.pc 2).2 with pc := s.pc + 3 } :=
      (step_of_fetches hfetch).trans (hfetched.trans (hexec g hg))
    have hi := hexec i.form hskip
    rw [instr_form] at hi
    exact ⟨hstep.trans hi.symm, hstep⟩

end Sys2Proof.Machine
end

section
/-! A reset reported at a boundary (70_reset_and_hazards.md R330): what the whole step writes and what it leaves. -/

namespace Sys2Proof.Machine
open Sys2Proof

/-! ## What a reset writes -/

@[simp] theorem State.resetEvent_pc (s : State) : s.resetEvent.pc = State.reset.pc := rfl

/-- The control cells of the fixed reset state, but for the shadow, which R41 leaves unspecified. -/
@[simp] theorem State.resetEvent_ctl (s : State) :
    s.resetEvent.ctl = { State.reset.ctl with trapIeShadow := Config.resetTrapShadow s.draws } := rfl

/-! ## What a reset leaves -/

@[simp] theorem State.resetEvent_mem (s : State) : s.resetEvent.mem = s.mem := rfl

@[simp] theorem State.resetEvent_memMap (s : State) : s.resetEvent.memMap = s.memMap := rfl

@[simp] theorem State.resetEvent_trace (s : State) : s.resetEvent.trace = s.trace := rfl

/-! ## The step -/

/-- A reported reset comes before every request, the halt and the latching of an RST 7.5 edge (log 17). -/
theorem step_of_reset {s : State} (hr : s.event.reset = true) : step s = .next s.eventTaken.resetEvent := by
  rw [step, if_pos hr]

/-! ## The statement -/

/-- Settles O47: the listed cells get the values they have in the fixed reset state (O48), and the rest is outside what a
reset writes. -/
theorem resetEventSetsTheListedCells : Obligations.ResetEventSetsTheListedCells := by
  intro s hr
  obtain ⟨hpc, hcells⟩ := resetStateHasTheListedValues
  have hmem : KeepsMemory s s.eventTaken.resetEvent := keepsMemory_of_mem (by simp)
  refine ⟨s.eventTaken.resetEvent, step_of_reset hr, ?_⟩
  simp [hpc, hcells, hmem]

end Sys2Proof.Machine
end
